-- ==== Sys2Proof/Word.lean ====
section
/-!
DEFINITION. The words of the block: bytes, the 16-bit value, the 24-bit word of the formats
`FRAME24` and `REQ24` (30_encoding.md rule R50), and the 3-byte frame (10_state.md rule R15).
-/

namespace Sys2Proof

/-- One byte of a frame. -/
abbrev Byte := BitVec 8

/-- The value operand: "16-bit unsigned" (40_frame_encoder.md rule R70). -/
abbrev Value := BitVec 16

/-- A word of `REQ24` or of `FRAME24` (30_encoding.md rule R50). -/
abbrev Word24 := BitVec 24

/-- A command frame: exactly three bytes, in the order they are handed to a port
(20_memory.md rules R35, R36). -/
structure Frame where
  b0 : Byte
  b1 : Byte
  b2 : Byte
deriving DecidableEq, Repr

end Sys2Proof
end

