-- ==== Sys2Proof/Syntax.lean ====
section
/-!
DEFINITION. The instructions: one constructor per row of spec/opcode_table.json, and the words they
are written in, in their three spaces (30_encoding.md rule R50).
-/

namespace Sys2Proof

/-- A channel: the "closed set of 5 symbolic values" of 41_channel_selector.md rule R80. -/
inductive Channel where
  | A | B | C | D | All
deriving DecidableEq, Repr

/-- The eleven rows of the opcode table.

The five `frame…` rows are the rows of format `FRAME24`, which goes from the block to the bus
collaborator or the initiator and is never a request (30_encoding.md rule R50). DESIGN CHOICE,
assumption log 11: as an instruction such a row is what the decoder of frames of rule R58 finds.

`fromIndex` takes any natural number, as 41_channel_selector.md rule R81 does abstractly; the request
word carries 16 bits of it (`WellFormed`). -/
inductive Instr where
  | frameA (v : Value)
  | frameB (v : Value)
  | frameC (v : Value)
  | frameD (v : Value)
  | frameAll (v : Value)
  | enable
  | writeBlocking (c : Channel) (v : Value)
  | prepareTransfer (c : Channel) (v : Value)
  | fromIndex (i : Nat)
  | encode (c : Channel) (v : Value)
  | construct
deriving DecidableEq, Repr

/-- A word in its space, whichever way it goes. The spaces are apart: "the same 24-bit number can be a
legal word of both and means unrelated things" (30_encoding.md rule R50). -/
inductive CodeWord where
  /-- a request word (30_encoding.md rule R55) -/
  | req24 (w : Word24)
  /-- a command frame as one number (30_encoding.md rule R51); an output of the block (rule R50) -/
  | frame24 (w : Word24)
  /-- the reset input (30_encoding.md rule R64) -/
  | rst1 (b : BitVec 1)
deriving DecidableEq, Repr

/-- Why a word names no instruction. -/
inductive WordError where
  /-- `op` is 0 or 6 to 15 (30_encoding.md rule R59) -/
  | reservedOperation
  /-- `ch` is 5 to 15 (30_encoding.md rule R60) -/
  | noSuchChannel
  /-- a "must be 0" field is not 0 (30_encoding.md rule R61) -/
  | mustBeZero
  /-- a frame outside the five rows, "not produced by this block" (30_encoding.md rule R58) -/
  | frameNeverEmitted
  /-- the reset input at 0, "no operation" (30_encoding.md rule R64) -/
  | noReset
deriving DecidableEq, Repr

end Sys2Proof
end

