-- ==== Sys2Proof/Config.lean ====
section
/-!
DEFINITION. What the spec leaves to a parameter (00_scope.md section 4, the end of
92_eei_decisions.md), what the collaborators may answer (00_scope.md section 5.3), and the free
values: constants with no body, so that nothing can be proved of them.
-/

namespace Sys2Proof

/-- A level a line is driven to (`LOW`, `HIGH` of 00_scope.md section 4). -/
inductive Level where
  | low | high
deriving DecidableEq, Repr, Inhabited

/-- What a line collaborator answers to a drive (20_memory.md rule R43). A failed drive leaves the
line at either level (10_state.md rule R18); the answer says which. -/
inductive LineAnswer where
  | ok
  | fail (left : Level)
deriving DecidableEq, Repr, Inhabited

/-- What the bus collaborator answers to a write (20_memory.md rule R31, 60_exceptions.md rule R146). -/
inductive BusAnswer where
  | ok
  | fail
deriving DecidableEq, Repr, Inhabited

/-- What the transfer initiator has done with the frame when it returns (44_transfer.md rule R122).
It reports none of it to the block (rule R121). -/
inductive InitiatorAnswer where
  /-- the bytes are on the bus -/
  | sent
  /-- the transfer is only begun: the frame is pending (10_state.md rule R19) -/
  | deferred
deriving DecidableEq, Repr, Inhabited

/-- The parameters a model takes (00_scope.md section 4). The spec's own values for them are
`Machine.specParams`. -/
structure Params where
  /-- selector code of channel A (92_eei_decisions.md D1) -/
  selA : BitVec 4
  /-- selector code of channel C (D1) -/
  selC : BitVec 4
  /-- selector code of channel D (D1) -/
  selD : BitVec 4
  /-- iterations of the busy-wait (D8); "use it for nothing" -/
  waitIters : Nat
  /-- are the closing line events driven after a failed bus write (D9) -/
  deassertOnBusError : Bool
  /-- does an invalid index halt the block for good (D5) -/
  abortOnInvalidIndex : Bool
deriving DecidableEq, Repr

namespace Config

/-- FREE VALUE, assumption log 4: `WAIT_ITERS` is one more than this (42_busy_wait.md rule R90). -/
opaque waitItersLessOne : Nat

/-- FREE VALUE, assumption log 6: the line answer where `lineReplies` holds none. -/
opaque freeLineAnswer : Nat → LineAnswer

/-- FREE VALUE, assumption log 6: the bus answer where `busReplies` holds none. -/
opaque freeBusAnswer : Nat → BusAnswer

/-- FREE VALUE, assumption log 6: the initiator's behaviour where `initiatorReplies` holds none. -/
opaque freeInitiatorAnswer : Nat → InitiatorAnswer

end Config

end Sys2Proof
end

