-- ==== Sys2Proof/Machine/State.lean ====
section
/-!
DEFINITION. The state of the block and of what it is wired to, as plain data, with the reasons a
step can stop, and the state right after reset (10_state.md, 70_reset_and_hazards.md rule R151).
-/

namespace Sys2Proof.Machine

/-- The three output lines (00_scope.md section 5.2). -/
inductive Line where
  | EN | SEL | RST
deriving DecidableEq, Repr

/-- What a line's latch holds (10_state.md rule R18). -/
inductive Latch where
  | low | high | unknown
deriving DecidableEq, Repr

/-- How a collaborator's call ends: with an answer, or never (60_exceptions.md rule R144). -/
inductive Reply (α : Type) where
  | answer (a : α)
  | never
deriving DecidableEq, Repr

/-- Whom the block calls (00_scope.md section 7, question 1). -/
inductive Collaborator where
  | line | bus | initiator
deriving DecidableEq, Repr

/-- An event of the trace (00_scope.md section 5.4). It stands there whatever the answer was. -/
inductive Event where
  | line (l : Line) (lvl : Level)
  | bus (f : Frame)
  | wait
  | init (f : Frame)
deriving DecidableEq, Repr

/-- A response: exactly the three codes of 60_exceptions.md rule R130 (rule R145). Only `ok` carries
a returned value (30_encoding.md rule R63). -/
inductive Response where
  | ok (ret : Word24)
  | busWriteError
  | invalidIndex
deriving DecidableEq, Repr

/-- The sequencer position (10_state.md rule R17): `idle`, or the step the block is about to do,
by the step numbers of 43_lifecycle.md rule R97 and 44_transfer.md rules R111, R119. -/
inductive Seq where
  | idle
  | enable1 | enable2 | enable3 | enable4 | enable5
  | enable6 | enable7 | enable8 | enable9 | enable10
  | write1 | write2 | write3 | write4 | write5 | write6 | write7
  | prepare1 | prepare2 | prepare3 | prepare4 | prepare5 | prepare6
deriving DecidableEq, Repr

/-- What comes from outside, in the order it comes (70_reset_and_hazards.md rule R164). -/
inductive Input where
  /-- the host presents a request word (30_encoding.md rule R55) -/
  | request (w : Word24)
  /-- the host sets the reset input (rule R64) -/
  | reset (b : BitVec 1)
  /-- a frame word reaches the decoder of frames, which stands where the DAC stands and not in the
  block: "a `FRAME24` word is never a request" (rules R50, R58; assumption log 11) -/
  | frameSeen (w : Word24)
  /-- the initiator's transport has put the last byte of this frame on the bus
  (10_state.md rule R19) -/
  | frameLeft (f : Frame)
deriving DecidableEq, Repr

/-- Why the machine has no next state. -/
inductive Fault where
  /-- Raised by the drive, bus-write and initiator steps when the collaborator never returns
  (60_exceptions.md rule R144): "the operation never ends". Safe. -/
  | neverReturned (who : Collaborator)
  /-- Raised by every operation but `CONSTRUCT` on a block halted by an invalid index
  (60_exceptions.md rule R147): only with the parameter `ABORT_ON_INVALID_INDEX`. Safe. -/
  | haltedByInvalidIndex
  /-- Raised by a step that reads an operand, frame or answer that is not there; no consistent
  state does (`Safety.lean`). Safe. -/
  | latchEmpty
deriving DecidableEq, Repr

/-- Why the machine gives no meaning. -/
inductive Refusal where
  /-- Raised by an arm of `exec` for an instruction with no meaning yet. Safe. -/
  | notModelled (mnemonic : String)
  /-- Raised by the fetch for a request that names no operation (30_encoding.md rules R59 to R61).
  Safe. -/
  | badWord (why : WordError)
  /-- Raised by every operation but `CONSTRUCT` while an operation runs: "A model gives a busy block no
  accepting step" (70_reset_and_hazards.md rule R165). Safe. -/
  | blockBusy
  /-- Raised by `CONSTRUCT` and by the fetch for a reset while an operation runs: "has no meaning in
  this spec and a model refuses it" (70_reset_and_hazards.md rule R153). Safe. -/
  | resetWhileBusy
deriving DecidableEq, Repr

structure State where
  /-- the one flag (10_state.md rule R10) -/
  active : Bool
  /-- the sequencer position (rule R17) -/
  seq : Seq
  /-- the channel of the running operation (rule R16) -/
  opCh : Option Channel
  /-- the value of the running operation (rule R16) -/
  opVal : Option Value
  /-- the index of the running operation (rule R16) -/
  opIdx : Option Nat
  /-- the transient frame buffer (rule R15) -/
  frame : Option Frame
  /-- `r` of 44_transfer.md rule R111, between its steps 4 and 7 -/
  busAnswer : Option BusAnswer
  /-- halted by an invalid index (60_exceptions.md rule R147) -/
  halted : Bool
  /-- latch of the enable line (rule R18) -/
  lineEN : Latch
  /-- latch of the select line (rule R18) -/
  lineSEL : Latch
  /-- latch of the reset line (rule R18) -/
  lineRST : Latch
  /-- frames handed to the initiator and not yet out, oldest first (rule R19) -/
  pending : List Frame
  /-- the events so far, oldest first (00_scope.md rule R5) -/
  trace : List Event
  /-- the responses so far, oldest first (60_exceptions.md rule R130) -/
  responses : List Response
  /-- what the decoder of frames has found, oldest first: channel and value of a frame, or "not
  produced by this block" (30_encoding.md rule R58). It is outside the block, which never reads it
  (the model's own field, assumption log 11) -/
  verdicts : List (Option (Channel × Value))
  /-- what comes from outside, next first (the model's own field, assumption log 13) -/
  inputs : List Input
  /-- the line collaborators' replies to come, next first (the model's own field, log 6) -/
  lineReplies : List (Reply LineAnswer)
  /-- the bus collaborator's replies to come, next first (the model's own field, log 6) -/
  busReplies : List (Reply BusAnswer)
  /-- the initiator's replies to come, next first (the model's own field, log 6) -/
  initiatorReplies : List (Reply InitiatorAnswer)
  /-- how many free line answers have been drawn (the model's own field, log 6) -/
  lineDraws : Nat
  /-- how many free bus answers have been drawn (the model's own field, log 6) -/
  busDraws : Nat
  /-- how many free initiator answers have been drawn (the model's own field, log 6) -/
  initiatorDraws : Nat
deriving DecidableEq, Repr

/-- The state after the first `CONSTRUCT` after power-on (70_reset_and_hazards.md rule R151). The
inputs, replies and verdicts are empty and the counters of free values are 0: DESIGN CHOICE, assumption
logs 6, 11, 13, 19. -/
def State.reset : State where
  active := false
  seq := .idle
  opCh := none
  opVal := none
  opIdx := none
  frame := none
  busAnswer := none
  halted := false
  lineEN := .unknown
  lineSEL := .unknown
  lineRST := .unknown
  pending := []
  trace := []
  responses := []
  verdicts := []
  inputs := []
  lineReplies := []
  busReplies := []
  initiatorReplies := []
  lineDraws := 0
  busDraws := 0
  initiatorDraws := 0

end Sys2Proof.Machine
end

