-- ==== Sys2Proof/Machine/Flags.lean ====
section
/-!
DEFINITION. The block's one flag, `active` (10_state.md rules R10 to R13), and the halt of
60_exceptions.md rule R147. The block computes no other flag (40_frame_encoder.md rule R72).
-/

namespace Sys2Proof.Machine

/-- `active <- true`: step 10 of `ENABLE` (43_lifecycle.md rule R99). -/
def State.activate (s : State) : State := { s with active := true }

/-- `active <- false`: `CONSTRUCT` (43_lifecycle.md rule R95). -/
def State.deactivate (s : State) : State := { s with active := false }

/-- The status output, which "always shows the current value of `active`" (10_state.md rule R13). -/
def State.status (s : State) : Bool := s.active

/-- The halt of an invalid index under `ABORT_ON_INVALID_INDEX` (60_exceptions.md rule R147). -/
def State.halt (s : State) : State := { s with halted := true }

/-- Only `CONSTRUCT` "revives it" (60_exceptions.md rule R147). -/
def State.revive (s : State) : State := { s with halted := false }

end Sys2Proof.Machine
end

