-- ==== Sys2Proof/WellFormed.lean ====
section
/-!
DEFINITION. Which instructions have a word: all but a `fromIndex` whose index does not fit the 16
bits of `imm` (92_eei_decisions.md D6, INDEX_BITS of 00_scope.md section 4).
-/

namespace Sys2Proof

/-- The one check the types leave: the index fits `imm[15:0]` (30_encoding.md rule R56). An
out-of-range index below 65536 IS well formed: it is a run-time fault (rule R62). -/
def wellFormed : Instr → Bool
  | .frameA _ => true
  | .frameB _ => true
  | .frameC _ => true
  | .frameD _ => true
  | .frameAll _ => true
  | .enable => true
  | .writeBlocking _ _ => true
  | .prepareTransfer _ _ => true
  | .fromIndex i => decide (i < 65536)
  | .encode _ _ => true
  | .construct => true

/-- An instruction that a word can carry. -/
abbrev WellFormed (i : Instr) : Prop := wellFormed i = true

end Sys2Proof
end

