-- ==== Sys2Proof/Decode.lean ====
section
/-!
DEFINITION. The decoder of the three formats, total and refusing by name, and after it the encoder
(30_encoding.md rules R50 to R64 and section 8).
-/

namespace Sys2Proof

/-- The channel of an id in `ch` (30_encoding.md rule R57). -/
def channelOfId (n : Nat) : Option Channel :=
  match n with
  | 0 => some .A
  | 1 => some .B
  | 2 => some .C
  | 3 => some .D
  | 4 => some .All
  | _ => none

/-- The id of a channel (30_encoding.md rule R57). -/
def channelId : Channel → BitVec 4
  | .A => 0#4
  | .B => 1#4
  | .C => 2#4
  | .D => 3#4
  | .All => 4#4

/-- `op = w[23:20]` (30_encoding.md rule R55). -/
def opField (w : Word24) : BitVec 4 := w.extractLsb' 20 4

/-- `ch = w[19:16]` (30_encoding.md rule R55). -/
def chField (w : Word24) : BitVec 4 := w.extractLsb' 16 4

/-- `imm = w[15:0]` (30_encoding.md rule R55). -/
def immField (w : Word24) : BitVec 16 := w.extractLsb' 0 16

/-- Byte 0 of a frame word: prefix and selector (30_encoding.md rule R51). -/
def headField (w : Word24) : Byte := w.extractLsb' 16 8

/-- An operation on a channel: refused for ids 5 to 15 (30_encoding.md rule R60). -/
def withChannel (w : Word24) (mk : Channel → Value → Instr) : Except WordError Instr :=
  match channelOfId (chField w).toNat with
  | some c => .ok (mk c (immField w))
  | none => .error .noSuchChannel

/-- The decoding procedure of 30_encoding.md section 8. -/
def decodeReq24 (w : Word24) : Except WordError Instr :=
  match (opField w).toNat with
  | 1 => if chField w = 0#4 ∧ immField w = 0#16 then .ok .enable else .error .mustBeZero
  | 2 => withChannel w .writeBlocking
  | 3 => withChannel w .prepareTransfer
  | 4 => if chField w = 0#4 then .ok (.fromIndex (immField w).toNat) else .error .mustBeZero
  | 5 => withChannel w .encode
  | _ => .error .reservedOperation

/-- The recogniser of frames (30_encoding.md rules R54, R58): five rows, told apart by byte 0. -/
def decodeFrame24 (w : Word24) : Except WordError Instr :=
  match (headField w).toNat with
  | 0x10 => .ok (.frameA (immField w))
  | 0x12 => .ok (.frameB (immField w))
  | 0x14 => .ok (.frameC (immField w))
  | 0x16 => .ok (.frameD (immField w))
  | 0x17 => .ok (.frameAll (immField w))
  | _ => .error .frameNeverEmitted

/-- The reset input (30_encoding.md rule R64). -/
def decodeRst1 (b : BitVec 1) : Except WordError Instr :=
  if b = 1#1 then .ok .construct else .error .noReset

/-- The instruction a word names in its space, or why it names none. -/
def decode : CodeWord → Except WordError Instr
  | .req24 w => decodeReq24 w
  | .frame24 w => decodeFrame24 w
  | .rst1 b => decodeRst1 b

/-- A request word from its three fields (30_encoding.md rule R55). -/
def reqWord (op ch : BitVec 4) (imm : BitVec 16) : Word24 := op ++ ch ++ imm

/-- A frame word from byte 0 and the value (30_encoding.md rule R54). -/
def frameWord (b0 : Byte) (v : Value) : Word24 := b0 ++ v

/-- The encoder, from the tables of 30_encoding.md rules R54, R56, R57, R64. -/
def encode : Instr → CodeWord
  | .frameA v => .frame24 (frameWord 0x10#8 v)
  | .frameB v => .frame24 (frameWord 0x12#8 v)
  | .frameC v => .frame24 (frameWord 0x14#8 v)
  | .frameD v => .frame24 (frameWord 0x16#8 v)
  | .frameAll v => .frame24 (frameWord 0x17#8 v)
  | .enable => .req24 (reqWord 0x1#4 0#4 0#16)
  | .writeBlocking c v => .req24 (reqWord 0x2#4 (channelId c) v)
  | .prepareTransfer c v => .req24 (reqWord 0x3#4 (channelId c) v)
  | .fromIndex i => .req24 (reqWord 0x4#4 0#4 (BitVec.ofNat 16 i))
  | .encode c v => .req24 (reqWord 0x5#4 (channelId c) v)
  | .construct => .rst1 1#1

/-- The instruction of a decoding, if there is one. -/
def decoded (x : CodeWord) : Option Instr :=
  match decode x with
  | .ok i => some i
  | .error _ => none

/-- The word in its space that the bits `w` of an opcode-table row are: `RST1` is the one row of a
bit (given as a byte), the other ten have 24 bits. The bits do not say which of the two 24-bit
spaces they belong to. DESIGN CHOICE, assumption log 12: the request space first, then the frame
space; they share the one word `0x100000`, read as `ENABLE`. -/
def tableWord (nbits w : Nat) : Option CodeWord :=
  if nbits ≤ 8 then
    if w < 2 then some (.rst1 (BitVec.ofNat 1 w)) else none
  else if nbits ≤ 24 ∧ w < 16777216 then
    match decoded (.req24 (BitVec.ofNat 24 w)), decoded (.frame24 (BitVec.ofNat 24 w)) with
    | none, some _ => some (.frame24 (BitVec.ofNat 24 w))
    | _, _ => some (.req24 (BitVec.ofNat 24 w))
  else none

/-- The decoder on a word numbered as spec/opcode_table.json numbers it. -/
def decodeTableWord (nbits w : Nat) : Option Instr :=
  match tableWord nbits w with
  | some x => decoded x
  | none => none

end Sys2Proof
end

