-- ==== Sys2Proof/Machine/Operands.lean ====
section
/-!
DEFINITION. Operand forms and the pure functions over them: the selector codes, the frame encoder,
the index map, the numbers of the response (30_encoding.md, 40_frame_encoder.md,
41_channel_selector.md). And the spec's own values of the parameters.
-/

namespace Sys2Proof.Machine

/-- The spec's values of the parameters (00_scope.md section 4). PRESUMED for the three selector
codes (the spec's D1, from general knowledge; assumption log 1). DESIGN CHOICE of the spec for
`deassertOnBusError` (D9, log 2) and `abortOnInvalidIndex` (D5, log 3). `waitIters` is a free value,
at least 1 (D8, log 4). -/
def specParams : Params where
  selA := 0b0000#4
  selC := 0b0100#4
  selD := 0b0110#4
  waitIters := Config.waitItersLessOne + 1
  deassertOnBusError := true
  abortOnInvalidIndex := false

/-- The selector code of a channel (41_channel_selector.md rule R82). -/
def sel (p : Params) : Channel → BitVec 4
  | .A => p.selA
  | .B => 0b0010#4
  | .C => p.selC
  | .D => p.selD
  | .All => 0b0111#4

/-- What holds of the parameters whatever a model takes for them: the five selector codes are
pairwise distinct (41_channel_selector.md rule R85) and the wait is not empty (42_busy_wait.md
rule R90). -/
abbrev paramsAdmitted (p : Params) : Prop :=
  [p.selA, 0b0010#4, p.selC, p.selD, 0b0111#4].Nodup ∧ 1 ≤ p.waitIters

/-- The prefix of byte 0 (30_encoding.md rule R52). -/
def framePrefix : Byte := 0b0001_0000#8

/-- The frame encoder (40_frame_encoder.md rule R70). -/
def encodeFrame (p : Params) (c : Channel) (v : Value) : Frame where
  b0 := framePrefix ||| (sel p c).setWidth 8
  b1 := ((v >>> 8) &&& 0xFF#16).setWidth 8
  b2 := (v &&& 0xFF#16).setWidth 8

/-- A frame as one number, `{byte0, byte1, byte2}` (20_memory.md rule R34). -/
def frameNumber (f : Frame) : Word24 := f.b0 ++ f.b1 ++ f.b2

/-- The index map (41_channel_selector.md rule R81). -/
def channelOfIndex (i : Nat) : Option Channel :=
  if i = 0 then some .A
  else if i = 1 then some .B
  else if i = 2 then some .C
  else if i = 3 then some .D
  else none

/-- A channel as a returned value: `zext_24(channel id)` (30_encoding.md rule R63). -/
def channelReturn (c : Channel) : Word24 := (channelId c).setWidth 24

/-- The number of a result code (60_exceptions.md rule R130). -/
def responseCode : Response → BitVec 2
  | .ok _ => 0#2
  | .busWriteError => 1#2
  | .invalidIndex => 2#2

/-- The number of a level (92_eei_decisions.md D11). -/
def levelBit : Level → BitVec 1
  | .low => 0#1
  | .high => 1#1

/-- A level as what a latch holds. -/
def levelLatch : Level → Latch
  | .low => .low
  | .high => .high

/-- The level a drive leaves: the one asked for, or, after a failure, the one the answer names
(10_state.md rule R18; assumption log 7). -/
def drivenLevel (lvl : Level) : LineAnswer → Level
  | .ok => lvl
  | .fail left => left

end Sys2Proof.Machine
end

