-- ==== Sys2Proof/Machine/Ops.lean ====
section
/-!
DEFINITION. The named operations over the state: latches, lines, trace, the collaborators' replies,
the end of an operation with a value (`finish`) and with an error (`raise`, which is all there is of
taking an exception, 60_exceptions.md rule R138), and the two tests every operation starts with.
There is no return from an exception (rule R140).
-/

namespace Sys2Proof.Machine

/-- The outcome of a step of this machine. -/
abbrev Result := Host.Outcome State Fault Refusal

/-- Go on from a next state; a fault or a refusal stands. -/
def andThen (o : Result) (f : State → Result) : Result :=
  match o with
  | .next s => f s
  | .fault r => .fault r
  | .refused r => .refused r

/-! ### Lines and trace -/

/-- The latch of a line. -/
def State.line (s : State) : Line → Latch
  | .EN => s.lineEN
  | .SEL => s.lineSEL
  | .RST => s.lineRST

/-- Set the latch of a line. -/
def State.setLine (s : State) (l : Line) (lvl : Level) : State :=
  match l with
  | .EN => { s with lineEN := levelLatch lvl }
  | .SEL => { s with lineSEL := levelLatch lvl }
  | .RST => { s with lineRST := levelLatch lvl }

/-- Append an event to the trace (00_scope.md section 5.4). -/
def State.emit (s : State) (e : Event) : State := { s with trace := s.trace ++ [e] }

/-- Move the sequencer (10_state.md rule R17). -/
def State.goto (s : State) (q : Seq) : State := { s with seq := q }

/-! ### The collaborators' replies: the next of the list, or a free answer (assumption log 6) -/

/-- The reply to the next drive. -/
def State.lineReply (s : State) : Reply LineAnswer :=
  match s.lineReplies with
  | r :: _ => r
  | [] => .answer (Config.freeLineAnswer s.lineDraws)

/-- The state once the reply to a drive is taken. -/
def State.lineAsked (s : State) : State :=
  match s.lineReplies with
  | _ :: rest => { s with lineReplies := rest }
  | [] => { s with lineDraws := s.lineDraws + 1 }

/-- The reply to the next bus write. -/
def State.busReply (s : State) : Reply BusAnswer :=
  match s.busReplies with
  | r :: _ => r
  | [] => .answer (Config.freeBusAnswer s.busDraws)

/-- The state once the reply to a bus write is taken. -/
def State.busAsked (s : State) : State :=
  match s.busReplies with
  | _ :: rest => { s with busReplies := rest }
  | [] => { s with busDraws := s.busDraws + 1 }

/-- The initiator's behaviour at its next call. -/
def State.initiatorReply (s : State) : Reply InitiatorAnswer :=
  match s.initiatorReplies with
  | r :: _ => r
  | [] => .answer (Config.freeInitiatorAnswer s.initiatorDraws)

/-- The state once the initiator's behaviour is taken. -/
def State.initiatorAsked (s : State) : State :=
  match s.initiatorReplies with
  | _ :: rest => { s with initiatorReplies := rest }
  | [] => { s with initiatorDraws := s.initiatorDraws + 1 }

/-! ### The end of an operation -/

/-- The transient latches cease to exist and the sequencer is idle (10_state.md rules R15 to R17). -/
def State.release (s : State) : State :=
  { s with opCh := none, opVal := none, opIdx := none, frame := none, busAnswer := none, seq := .idle }

/-- The end of an operation, with a response (60_exceptions.md rule R130). -/
def State.respond (s : State) (r : Response) : State :=
  { s.release with responses := s.responses ++ [r] }

/-- The end with `code <- OK` and a returned value (30_encoding.md rule R63). -/
def State.finish (s : State) (ret : Word24) : State := s.respond (.ok ret)

/-- TAKING AN EXCEPTION, the one shared operation: `raise E` "set `code <- E`, give no `ret`, set
`seq <- IDLE`. Nothing is saved, no mode changes, no mask changes" (60_exceptions.md rule R138). -/
def State.raise (s : State) (e : Response) : State := s.respond e

/-! ### The tests an operation starts with -/

/-- An operation is accepted only while the block is idle (70_reset_and_hazards.md rule R165), and
not at all by a halted block (60_exceptions.md rule R147). -/
def State.whenReady (s : State) (body : Result) : Result :=
  if s.seq ≠ .idle then .refused .blockBusy
  else if s.halted then .fault .haltedByInvalidIndex
  else body

/-- The guard of both transfers (44_transfer.md rule R110): nothing and `OK` while `active` is false. -/
def State.whenActive (s : State) (body : Result) : Result :=
  if s.active = false then .next (s.finish 0#24) else body

/-! ### Latching operands (10_state.md rule R16) -/

/-- Latch a channel and a value. -/
def State.latchTransfer (s : State) (c : Channel) (v : Value) : State :=
  { s with opCh := some c, opVal := some v }

/-- Latch an index. -/
def State.latchIndex (s : State) (i : Nat) : State := { s with opIdx := some i }

/-! ### The decoder of frames, outside the block -/

/-- The decoder of frames has found a frame, or a word "not produced by this block"
(30_encoding.md rule R58). -/
def State.noteFrame (s : State) (found : Option (Channel × Value)) : State :=
  { s with verdicts := s.verdicts ++ [found] }

/-! ### What a running transfer holds -/

/-- The frame comes into being (10_state.md rule R15). -/
def State.holdFrame (s : State) (f : Frame) : State := { s with frame := some f }

/-- `r <- BusWrite(frame)` (44_transfer.md rule R111, step 4). -/
def State.holdBusAnswer (s : State) (a : BusAnswer) : State := { s with busAnswer := some a }

/-- What has become of the frame handed to the initiator when it returns: on the bus, or pending
(10_state.md rule R19, 44_transfer.md rule R122). -/
def State.handOver (s : State) (f : Frame) (a : InitiatorAnswer) : State :=
  match a with
  | .sent => s
  | .deferred => { s with pending := s.pending ++ [f] }

end Sys2Proof.Machine
end

