-- ==== Sys2Proof/Machine/Frames.lean ====
section
/-!
DEFINITION. `ENCODE` (40_frame_encoder.md rule R70), and the five frame rows as the decoder of frames
finds them (30_encoding.md rules R50, R54, R58).
-/

namespace Sys2Proof.Machine

/-- `ret <- {b0, b1, b2}` of the latched operands, `code <- OK` (40_frame_encoder.md rule R70). -/
def State.answerFrame (p : Params) (s : State) : Result :=
  match s.opCh, s.opVal with
  | some c, some v => .next (s.finish (frameNumber (encodeFrame p c v)))
  | _, _ => .fault .latchEmpty

/-- `ENCODE` under any parameters: no event, no state, in either state of the block (rule R74). -/
def State.encodeWith (p : Params) (c : Channel) (v : Value) (s : State) : Result :=
  s.whenReady ((s.latchTransfer c v).answerFrame p)

/-- `ENCODE` (40_frame_encoder.md rule R70). -/
def execEncode (c : Channel) (v : Value) (s : State) : Result := s.encodeWith specParams c v

/-- The decoder of frames meets the frame `Encode(c, v)`. A frame is an output of the block, "never a
request" (30_encoding.md rule R50): it asks for no operation and has no response (rule R63), and, as
rule R70 has it, no state of the block is read or written and no event happens. -/
def State.recognise (c : Channel) (v : Value) (s : State) : Result := .next (s.noteFrame (some (c, v)))

/-- `FRAME_A` (30_encoding.md rules R54, R58; assumption log 11). -/
def execFrameA (v : Value) (s : State) : Result := s.recognise .A v

/-- `FRAME_B` (30_encoding.md rules R54, R58; assumption log 11). -/
def execFrameB (v : Value) (s : State) : Result := s.recognise .B v

/-- `FRAME_C` (30_encoding.md rules R54, R58; assumption log 11). -/
def execFrameC (v : Value) (s : State) : Result := s.recognise .C v

/-- `FRAME_D` (30_encoding.md rules R54, R58; assumption log 11). -/
def execFrameD (v : Value) (s : State) : Result := s.recognise .D v

/-- `FRAME_ALL` (30_encoding.md rules R54, R58; assumption log 11). -/
def execFrameAll (v : Value) (s : State) : Result := s.recognise .All v

end Sys2Proof.Machine
end

