-- ==== Sys2Proof/Machine/Sequencer.lean ====
section
/-!
DEFINITION. The control-line sequencer: what each numbered step of `ENABLE`, `WRITE_BLOCKING` and
`PREPARE_TRANSFER` does (43_lifecycle.md rule R97, 44_transfer.md rules R111, R119), one step at a
time as 10_state.md rule R17 has it, and the run of an accepted operation to its end.
-/

namespace Sys2Proof.Machine

/-- `Drive(L, lvl)`: the event stands in the trace and the next step follows whatever the answer;
only the latch depends on it (60_exceptions.md rule R132, 10_state.md rule R18). -/
def State.drive (s : State) (l : Line) (lvl : Level) (q : Seq) : Result :=
  match s.lineReply with
  | .never => .fault (.neverReturned .line)
  | .answer a => .next (((s.lineAsked.setLine l (drivenLevel lvl a)).emit (.line l lvl)).goto q)

/-- `Wait()`: one event and nothing else (42_busy_wait.md rule R90). -/
def State.wait (s : State) (q : Seq) : Result := .next ((s.emit .wait).goto q)

/-- `frame <- Encode(op_ch, op_val)`, which emits no event (44_transfer.md rules R111, R119). -/
def State.buildFrame (p : Params) (s : State) (q : Seq) : Result :=
  match s.opCh, s.opVal with
  | some c, some v => .next ((s.holdFrame (encodeFrame p c v)).goto q)
  | _, _ => .fault .latchEmpty

/-- `r <- BusWrite(frame)`: to the closing line events, or past them after a failure if the parameter
says so (44_transfer.md rules R111, R118). -/
def State.busWrite (p : Params) (s : State) : Result :=
  match s.frame with
  | none => .fault .latchEmpty
  | some f =>
    match s.busReply with
    | .never => .fault (.neverReturned .bus)
    | .answer a =>
      .next (((s.busAsked.holdBusAnswer a).emit (.bus f)).goto
        (if a = BusAnswer.fail ∧ p.deassertOnBusError = false then .write7 else .write5))

/-- The result of `WRITE_BLOCKING` is the bus answer and nothing else (44_transfer.md rule R114). -/
def State.reportBus (s : State) : Result :=
  match s.busAnswer with
  | some .ok => .next (s.finish 0#24)
  | some .fail => .next (s.raise .busWriteError)
  | none => .fault .latchEmpty

/-- `Initiate(frame)`: one synchronous call, nothing returned; a transfer only begun leaves the frame
pending (44_transfer.md rules R120, R122, 10_state.md rule R19). -/
def State.initiate (s : State) (q : Seq) : Result :=
  match s.frame with
  | none => .fault .latchEmpty
  | some f =>
    match s.initiatorReply with
    | .never => .fault (.neverReturned .initiator)
    | .answer a => .next (((s.initiatorAsked.handOver f a).emit (.init f)).goto q)

/-- One step of the sequencer. An idle one has nothing to do. -/
def State.advance (p : Params) (s : State) : Result :=
  match s.seq with
  | .idle => .next s
  | .enable1 => s.drive .EN .low .enable2
  | .enable2 => s.drive .SEL .low .enable3
  | .enable3 => s.drive .SEL .high .enable4
  | .enable4 => s.drive .EN .high .enable5
  | .enable5 => s.drive .RST .low .enable6
  | .enable6 => s.wait .enable7
  | .enable7 => s.drive .RST .high .enable8
  | .enable8 => s.wait .enable9
  | .enable9 => s.drive .RST .low .enable10
  | .enable10 => .next (s.activate.finish 0#24)
  | .write1 => s.buildFrame p .write2
  | .write2 => s.drive .EN .low .write3
  | .write3 => s.drive .SEL .low .write4
  | .write4 => s.busWrite p
  | .write5 => s.drive .SEL .high .write6
  | .write6 => s.drive .EN .high .write7
  | .write7 => s.reportBus
  | .prepare1 => s.drive .EN .low .prepare2
  | .prepare2 => s.drive .SEL .low .prepare3
  | .prepare3 => s.buildFrame p .prepare4
  | .prepare4 => s.initiate .prepare5
  | .prepare5 => s.drive .SEL .high .prepare6
  | .prepare6 => andThen (s.drive .EN .high .idle) (fun t => .next (t.finish 0#24))

/-- The step number of a position (43_lifecycle.md rule R97, 44_transfer.md rules R111, R119); 0 for
`IDLE`. -/
def seqNumber : Seq → Nat
  | .idle => 0
  | .enable1 | .write1 | .prepare1 => 1
  | .enable2 | .write2 | .prepare2 => 2
  | .enable3 | .write3 | .prepare3 => 3
  | .enable4 | .write4 | .prepare4 => 4
  | .enable5 | .write5 | .prepare5 => 5
  | .enable6 | .write6 | .prepare6 => 6
  | .enable7 | .write7 => 7
  | .enable8 => 8
  | .enable9 => 9
  | .enable10 => 10

/-- `n` steps of the sequencer. Nothing can interleave with an operation (00_scope.md rule R4), so a
model may run it as one transition (10_state.md rule R17). -/
def State.runSteps (p : Params) : Nat → State → Result
  | 0, s => .next s
  | n + 1, s => andThen (s.advance p) (State.runSteps p n)

end Sys2Proof.Machine
end

