-- ==== Sys2Proof/Machine/Lifecycle.lean ====
section
/-!
DEFINITION. `CONSTRUCT` and `ENABLE` (43_lifecycle.md rules R95 to R104).
-/

namespace Sys2Proof.Machine

/-- What `CONSTRUCT` leaves (43_lifecycle.md rule R95, 70_reset_and_hazards.md rule R151): `active`
false, `seq` idle, no transient latch, nothing pending (DEDUCED, assumption log 9), not halted
(60_exceptions.md rule R147). No line, no event, no response (rules R96, R130). -/
def State.construct (s : State) : State :=
  { s.deactivate.release.revive with pending := [] }

/-- `CONSTRUCT`: only while idle (70_reset_and_hazards.md rule R153), in either state, halted or not. -/
def execConstruct (s : State) : Result :=
  if s.seq ≠ .idle then .refused .resetWhileBusy else .next s.construct

/-- `ENABLE` under any parameters: the ten steps of 43_lifecycle.md rule R97. It does not read
`active` (rule R100). -/
def State.enableWith (p : Params) (s : State) : Result :=
  s.whenReady ((s.goto .enable1).runSteps p 10)

/-- `ENABLE` (43_lifecycle.md rule R97). -/
def execEnable (s : State) : Result := s.enableWith specParams

end Sys2Proof.Machine
end

