-- ==== Sys2Proof/Machine/Selector.lean ====
section
/-!
DEFINITION. `FROM_INDEX` (41_channel_selector.md rules R81, R83; 60_exceptions.md rules R133, R147).
-/

namespace Sys2Proof.Machine

/-- The answer to the latched index: the channel's id, or `INVALID_INDEX` and no channel; under
`ABORT_ON_INVALID_INDEX` a halt with no response (60_exceptions.md rule R147). -/
def State.answerIndex (p : Params) (s : State) : Result :=
  match s.opIdx with
  | none => .fault .latchEmpty
  | some i =>
    match channelOfIndex i with
    | some c => .next (s.finish (channelReturn c))
    | none =>
      if p.abortOnInvalidIndex = true then .next s.release.halt
      else .next (s.raise .invalidIndex)

/-- `FROM_INDEX` under any parameters. -/
def State.fromIndexWith (p : Params) (i : Nat) (s : State) : Result :=
  s.whenReady ((s.latchIndex i).answerIndex p)

/-- `FROM_INDEX` (41_channel_selector.md rule R81). -/
def execFromIndex (i : Nat) (s : State) : Result := s.fromIndexWith specParams i

end Sys2Proof.Machine
end

