-- ==== Sys2Proof/Machine/Transfer.lean ====
section
/-!
DEFINITION. `WRITE_BLOCKING` and `PREPARE_TRANSFER` (44_transfer.md rules R110 to R124).
-/

namespace Sys2Proof.Machine

/-- `WRITE_BLOCKING` under any parameters: the guard, then the seven steps of rule R111. -/
def State.writeBlockingWith (p : Params) (c : Channel) (v : Value) (s : State) : Result :=
  s.whenReady (s.whenActive (((s.latchTransfer c v).goto .write1).runSteps p 7))

/-- `PREPARE_TRANSFER` under any parameters: the guard, then the six steps of rule R119. -/
def State.prepareTransferWith (p : Params) (c : Channel) (v : Value) (s : State) : Result :=
  s.whenReady (s.whenActive (((s.latchTransfer c v).goto .prepare1).runSteps p 6))

/-- `WRITE_BLOCKING` (44_transfer.md rule R111). -/
def execWriteBlocking (c : Channel) (v : Value) (s : State) : Result :=
  s.writeBlockingWith specParams c v

/-- `PREPARE_TRANSFER` (44_transfer.md rule R119). -/
def execPrepareTransfer (c : Channel) (v : Value) (s : State) : Result :=
  s.prepareTransferWith specParams c v

end Sys2Proof.Machine
end

