-- ==== Sys2Proof/Machine/Dispatch.lean ====
section
/-!
DEFINITION. One arm per instruction: the direct call of its meaning.
-/

namespace Sys2Proof.Machine

def exec (i : Instr) (s : State) : Host.Outcome State Fault Refusal :=
  match i with
  | .frameA v => Sys2Proof.Machine.execFrameA v s
  | .frameB v => Sys2Proof.Machine.execFrameB v s
  | .frameC v => Sys2Proof.Machine.execFrameC v s
  | .frameD v => Sys2Proof.Machine.execFrameD v s
  | .frameAll v => Sys2Proof.Machine.execFrameAll v s
  | .enable => Sys2Proof.Machine.execEnable s
  | .writeBlocking c v => Sys2Proof.Machine.execWriteBlocking c v s
  | .prepareTransfer c v => Sys2Proof.Machine.execPrepareTransfer c v s
  | .fromIndex n => Sys2Proof.Machine.execFromIndex n s
  | .encode c v => Sys2Proof.Machine.execEncode c v s
  | .construct => Sys2Proof.Machine.execConstruct s

end Sys2Proof.Machine
end

