-- ==== Sys2Proof/Machine/Fetch.lean ====
section
/-!
DEFINITION. What comes next: the head of `inputs` (70_reset_and_hazards.md rules R164, R165). There
is no instruction memory and no fetch at an address (10_state.md rule R17).
-/

namespace Sys2Proof.Machine

/-- What a step does: run an instruction, or something that is no instruction. -/
inductive Fetched where
  /-- run this instruction, its word taken from the inputs -/
  | run (i : Instr) (s : State)
  /-- the outcome of a step that runs none -/
  | done (o : Host.Outcome State Fault Refusal)

/-- The state with the head of the inputs taken. -/
def State.takeInput (s : State) : State := { s with inputs := s.inputs.tail }

/-- A pending frame has left on the bus (10_state.md rule R19; assumption log 10). -/
def State.frameOut (s : State) (f : Frame) : State := { s with pending := s.pending.erase f }

/-- A word of the host presented to an idle block: decoded, or refused by name (30_encoding.md
rule R59). -/
def State.present (s : State) (x : CodeWord) : Fetched :=
  match decode x with
  | .ok i => .run i s.takeInput
  | .error why => .done (.refused (.badWord why))

/-- A word put to the decoder of frames: one of the five rows, or "not produced by this block"
(30_encoding.md rule R58). The block has no part in it, idle or not (rule R50). -/
def State.seeFrame (s : State) (w : Word24) : Fetched :=
  match decode (.frame24 w) with
  | .ok i => .run i s.takeInput
  | .error _ => .done (.next (s.takeInput.noteFrame none))

/-- What happens next.

A frame leaving on the transport, or seen by the decoder of frames, touches no part of the block.
`RST1` = 0 is no operation (30_encoding.md rule R64). An idle block takes the next request or reset, and
with none stays as it is. A busy block does its next sequencer step; a request is "not accepted, not
queued and not remembered; the host presents it again" (70_reset_and_hazards.md rule R165), and a reset
is refused (rule R153). -/
def State.fetch (s : State) : Fetched :=
  match s.inputs with
  | .frameLeft f :: _ => .done (.next (s.takeInput.frameOut f))
  | .frameSeen w :: _ => s.seeFrame w
  | .request w :: _ => if s.seq = .idle then s.present (.req24 w) else .done (s.advance specParams)
  | .reset b :: _ =>
    if b = 0#1 then .done (.next s.takeInput)
    else if s.seq = .idle then s.present (.rst1 b)
    else .done (.refused .resetWhileBusy)
  | [] => .done (s.advance specParams)

/-- The state with a word as its next input (30_encoding.md rule R50): a request of the host to a block
that is idle and not halted, a reset of an idle block, or a frame word at the decoder of frames
(assumption log 13). -/
def State.withWord (s : State) (x : CodeWord) : State :=
  match x with
  | .req24 w => { s.revive.goto .idle with inputs := .request w :: s.inputs }
  | .frame24 w => { s with inputs := .frameSeen w :: s.inputs }
  | .rst1 b => { s.goto .idle with inputs := .reset b :: s.inputs }

end Sys2Proof.Machine
end

