-- ==== Sys2Proof/Machine/Step.lean ====
section
/-!
DEFINITION. One step of the machine: the next instruction run whole, or what the block does without
one (`State.fetch`).
-/

namespace Sys2Proof.Machine

def step (s : State) : Host.Outcome State Fault Refusal :=
  match s.fetch with
  | .run i t => exec i t
  | .done o => o

/-- The state with an opcode-table word as its next input: a request or reset of the host, or a frame
word at the decoder of frames (assumption logs 11, 12, 13). Bits that are no table word leave the
state as it is. -/
def State.withFetchWord (s : State) (nbits w : Nat) : State :=
  match tableWord nbits w with
  | some x => s.withWord x
  | none => s

end Sys2Proof.Machine
end

