-- ==== Sys2Proof/Machine/Observe.lean ====
section
/-!
DEFINITION. What is read off the trace: the pin trace and the bus trace of 00_scope.md section 5.4,
and the initiator's calls.
-/

namespace Sys2Proof.Machine

/-- The pin trace: every event that is not a line event removed (00_scope.md section 5.4). -/
def pinTrace (t : List Event) : List (Line × Level) :=
  t.filterMap fun e => match e with
    | .line l lvl => some (l, lvl)
    | .bus _ => none
    | .wait => none
    | .init _ => none

/-- The bus trace: only bus events kept (00_scope.md section 5.4). -/
def busTrace (t : List Event) : List Frame :=
  t.filterMap fun e => match e with
    | .line _ _ => none
    | .bus f => some f
    | .wait => none
    | .init _ => none

/-- The frames the initiator was called with, in order (44_transfer.md rule R120). -/
def initiatorCalls (t : List Event) : List Frame :=
  t.filterMap fun e => match e with
    | .line _ _ => none
    | .bus _ => none
    | .wait => none
    | .init f => some f

end Sys2Proof.Machine
end

