-- ==== Sys2Proof/Safety.lean ====
section
/-!
DEFINITION. The terms claims are stated in: a block ready for an operation, collaborators that
return, lines that obey, the consistency of the transient latches, and frames the block may emit.
-/

namespace Sys2Proof.Machine

/-- No operand, frame or answer is held (10_state.md rules R15, R16). -/
def State.LatchesEmpty (s : State) : Prop :=
  s.opCh = none ∧ s.opVal = none ∧ s.opIdx = none ∧ s.frame = none ∧ s.busAnswer = none

/-- A transfer is running: `active` is true (44_transfer.md rule R110) and its operands are held
(10_state.md rule R16). The frame is there, and is the encoding of the operands, from the step that
builds it on (rule R15); the bus answer is there after the bus write. -/
def State.TransferLatches (p : Params) (s : State) (framed answered : Bool) : Prop :=
  s.active = true ∧ s.opIdx = none ∧ s.busAnswer.isSome = answered ∧
    ∃ c v, s.opCh = some c ∧ s.opVal = some v ∧
      s.frame = if framed = true then some (encodeFrame p c v) else none

/-- The transient latches hold what the sequencer position says they hold. -/
def State.LatchesFit (p : Params) (s : State) : Prop :=
  match s.seq with
  | .idle => s.LatchesEmpty
  | .enable1 | .enable2 | .enable3 | .enable4 | .enable5 => s.LatchesEmpty
  | .enable6 | .enable7 | .enable8 | .enable9 | .enable10 => s.LatchesEmpty
  | .write1 => s.TransferLatches p false false
  | .write2 | .write3 | .write4 => s.TransferLatches p true false
  | .write5 | .write6 | .write7 => s.TransferLatches p true true
  | .prepare1 | .prepare2 | .prepare3 => s.TransferLatches p false false
  | .prepare4 | .prepare5 | .prepare6 => s.TransferLatches p true false

/-- A consistent state: the latches fit the position, and a halted block runs nothing
(60_exceptions.md rule R147). -/
def State.Consistent (p : Params) (s : State) : Prop :=
  s.LatchesFit p ∧ (s.halted = true → s.seq = .idle)

/-- The block is between operations and not halted: it takes the next operation
(70_reset_and_hazards.md rule R165; 10_state.md rule R21). -/
def State.Ready (s : State) : Prop :=
  s.seq = .idle ∧ s.halted = false ∧ s.LatchesEmpty

/-- The next `n` drives return (the premise of 60_exceptions.md rule R144). -/
def State.LinesReturn (n : Nat) (s : State) : Prop :=
  ∀ r ∈ s.lineReplies.take n, r ≠ .never

/-- The next bus write returns (60_exceptions.md rule R144). -/
def State.BusReturns (s : State) : Prop := s.busReply ≠ .never

/-- The next call of the initiator returns (60_exceptions.md rule R144). -/
def State.InitiatorReturns (s : State) : Prop := s.initiatorReply ≠ .never

/-- The next `n` drives answer `ok` (70_reset_and_hazards.md rule R159). -/
def State.LinesObey (n : Nat) (s : State) : Prop :=
  s.lineReplies.take n = List.replicate n (.answer .ok)

/-- The levels between operations of an enabled block: "enable high, select high, reset low"
(44_transfer.md rule R124). -/
def State.AtRest (s : State) : Prop :=
  s.lineEN = .high ∧ s.lineSEL = .high ∧ s.lineRST = .low

/-- The nine events of `ENABLE` (43_lifecycle.md rule R97). -/
def enableEvents : List Event :=
  [.line .EN .low, .line .SEL .low, .line .SEL .high, .line .EN .high, .line .RST .low, .wait,
    .line .RST .high, .wait, .line .RST .low]

/-- The five events of a transfer around its middle one (44_transfer.md rules R111, R119). -/
def transferEvents (middle : Event) : List Event :=
  [.line .EN .low, .line .SEL .low, middle, .line .SEL .high, .line .EN .high]

/-- The frame number of a channel and a value, by fields (30_encoding.md rules R51, R54): prefix,
selector code, value. -/
def frameFields (p : Params) (c : Channel) (v : Value) : Word24 := 0b0001#4 ++ sel p c ++ v

/-- The row of a frame: the instruction of format `FRAME24` for a channel (30_encoding.md rule R54). -/
def frameRow : Channel → Value → Instr
  | .A, v => .frameA v
  | .B, v => .frameB v
  | .C, v => .frameC v
  | .D, v => .frameD v
  | .All, v => .frameAll v

/-- An operation the host can ask for (30_encoding.md rules R56, R64): no frame row, since "a `FRAME24`
word is never a request" (rule R50). -/
def IsOperation (i : Instr) : Prop := ∀ c v, i ≠ frameRow c v

/-- A frame that is one of the five rows (30_encoding.md rule R58). -/
def Emittable (f : Frame) : Prop := ∃ i, decode (.frame24 (frameNumber f)) = .ok i

/-- Every frame of the trace is one of the five rows (30_encoding.md rule R58). -/
def State.EmitsOnlyRows (s : State) : Prop :=
  (∀ f ∈ busTrace s.trace, Emittable f) ∧ (∀ f ∈ initiatorCalls s.trace, Emittable f)

/-- The instruction the next step runs, if it runs one. -/
def State.nextInstr (s : State) : Option Instr :=
  match s.fetch with
  | .run i _ => some i
  | .done _ => none

/-- `t` but for the line side, which is that of `s`: the latches, the line replies and their counter. -/
def State.withLinesOf (t s : State) : State :=
  { t with lineEN := s.lineEN, lineSEL := s.lineSEL, lineRST := s.lineRST,
           lineReplies := s.lineReplies, lineDraws := s.lineDraws }

/-- `t` but for the bus collaborator's side, which is that of `s`. -/
def State.withBusOf (t s : State) : State :=
  { t with busReplies := s.busReplies, busDraws := s.busDraws }

/-- `t` but for the initiator's side, which is that of `s`: its replies, their counter, `pending`. -/
def State.withInitiatorOf (t s : State) : State :=
  { t with initiatorReplies := s.initiatorReplies, initiatorDraws := s.initiatorDraws,
           pending := s.pending }

/-- The one response an operation ends with, by 30_encoding.md rule R63: `active` and the bus answer
are those it finds. `CONSTRUCT` has none (60_exceptions.md rule R130), nor has a frame row, which is no
request (30_encoding.md rule R50). -/
def expectedResponses (active : Bool) (bus : Reply BusAnswer) : Instr → List Response
  | .frameA _ => []
  | .frameB _ => []
  | .frameC _ => []
  | .frameD _ => []
  | .frameAll _ => []
  | .enable => [.ok 0#24]
  | .writeBlocking _ _ =>
    if active = true ∧ bus = .answer .fail then [.busWriteError] else [.ok 0#24]
  | .prepareTransfer _ _ => [.ok 0#24]
  | .fromIndex i => if i < 4 then [.ok (BitVec.ofNat 24 i)] else [.invalidIndex]
  | .encode c v => [.ok (frameFields specParams c v)]
  | .construct => []

end Sys2Proof.Machine
end

