-- ==== Sys2Proof/Certificates/Slice0/Obligations.lean ====
section
/-!
DEFINITION. The statements about the model, for the provers. Each docstring names the rules of spec/
it rests on. Statements speak of `specParams`, the spec's own values of the parameters, unless they
quantify over them.
-/

open Sys2Proof Sys2Proof.Machine

/-! ### Encodings -/

/-- 30_encoding.md rules R54 to R57, R64 and section 8: no bit of an encoding is dropped. The codes of A,
C and D in the frame rows are PRESUMED (assumption log 1), and that those rows are instructions is the
model's choice (log 11). -/
def Obligations.DecodeOfEncodeIsTheInstruction : Prop :=
  ∀ i : Instr, WellFormed i → decode (encode i) = .ok i

/-- 30_encoding.md section 8: every accepted word is the encoding of what it decodes to, so each word
has one meaning in its space. For the frame rows: assumption logs 1 and 11. -/
def Obligations.EncodeOfDecodeIsTheWord : Prop :=
  ∀ (x : CodeWord) (i : Instr), decode x = .ok i → WellFormed i ∧ encode i = x

/-- 30_encoding.md rules R59, R60, R61: the step refuses the word, by name. The refusal of the word is
the spec's decision D14. -/
def Obligations.WordsOfNoOperationAreRefused : Prop :=
  ∀ (s : State) (w : Word24), s.seq = .idle → s.inputs.head? = some (.request w) →
    (opField w = 0x0#4 ∨ 0x6 ≤ (opField w).toNat →
      step s = .refused (.badWord .reservedOperation)) ∧
    ((opField w = 0x2#4 ∨ opField w = 0x3#4 ∨ opField w = 0x5#4) → 5 ≤ (chField w).toNat →
      step s = .refused (.badWord .noSuchChannel)) ∧
    (opField w = 0x1#4 → (chField w ≠ 0#4 ∨ immField w ≠ 0#16) →
      step s = .refused (.badWord .mustBeZero)) ∧
    (opField w = 0x4#4 → chField w ≠ 0#4 → step s = .refused (.badWord .mustBeZero))

/-- 30_encoding.md rules R54, R58: the frame words with a row are exactly the frames the encoder
makes, each the row of its channel and value; every other word is refused. The codes of A, C and D are
PRESUMED (assumption log 1). -/
def Obligations.FrameRowsAreExactlyTheEncodings : Prop :=
  ∀ w : Word24,
    (∀ i, decode (.frame24 w) = .ok i ↔
      ∃ c v, w = frameNumber (encodeFrame specParams c v) ∧ i = frameRow c v) ∧
    ((∀ c v, w ≠ frameNumber (encodeFrame specParams c v)) →
      decode (.frame24 w) = .error .frameNeverEmitted)

/-- Words written out from the encodings of 30_encoding.md rules R54, R56, R57, R64. -/
def Obligations.SampleWordsDecode : Prop :=
  decode (.req24 0b0001_0000_00000000_00000000#24) = .ok .enable ∧
  decode (.req24 0b0010_0100_00000000_00000000#24) = .ok (.writeBlocking .All 0x0000#16) ∧
  decode (.req24 0b0011_0001_00010010_00110100#24) = .ok (.prepareTransfer .B 0x1234#16) ∧
  decode (.req24 0b0100_0000_00000000_00000100#24) = .ok (.fromIndex 4) ∧
  decode (.req24 0b0101_0100_11111111_11111111#24) = .ok (.encode .All 0xFFFF#16) ∧
  decode (.frame24 0b0001_0010_00010010_00110100#24) = .ok (.frameB 0x1234#16) ∧
  decode (.frame24 0b0001_0111_11111111_11111111#24) = .ok (.frameAll 0xFFFF#16) ∧
  decode (.rst1 1#1) = .ok .construct

/-! ### The frame encoder -/

/-- 30_encoding.md rules R52, R53, for every choice of the selector codes. -/
def Obligations.FrameBytesAreAssembled : Prop :=
  ∀ (p : Params) (c : Channel) (v : Value),
    (encodeFrame p c v).b0 = 0b0001_0000#8 ||| (sel p c).setWidth 8 ∧
    (encodeFrame p c v).b0 = 0b0001_0000#8 + (sel p c).setWidth 8 ∧
    (encodeFrame p c v).b0.extractLsb' 4 4 = 0b0001#4 ∧
    (encodeFrame p c v).b0.extractLsb' 0 4 = sel p c ∧
    (encodeFrame p c v).b1 = ((v >>> 8) &&& 0xFF#16).setWidth 8 ∧
    (encodeFrame p c v).b2 = (v &&& 0xFF#16).setWidth 8 ∧
    (((encodeFrame p c v).b1.setWidth 16) <<< 8) ||| (encodeFrame p c v).b2.setWidth 16 = v

/-- 20_memory.md rule R34 and 30_encoding.md rule R51, for every choice of the selector codes: the
frame as one number is prefix, selector code and value, and its bytes are the fields of the table. -/
def Obligations.FrameNumberIsBigEndian : Prop :=
  ∀ (p : Params) (c : Channel) (v : Value),
    frameNumber (encodeFrame p c v) = frameFields p c v ∧
    frameNumber (encodeFrame p c v) =
      (((encodeFrame p c v).b0.setWidth 24) <<< 16) ||| v.setWidth 24 ∧
    (frameNumber (encodeFrame p c v)).extractLsb' 0 16 = v ∧
    (encodeFrame p c v).b0 = 0b0001#4 ++ sel p c ∧
    (encodeFrame p c v).b1 = v.extractLsb' 8 8 ∧
    (encodeFrame p c v).b2 = v.extractLsb' 0 8

/-- 40_frame_encoder.md rule R71: the encoding loses nothing of the value, and, with distinct selector
codes (41_channel_selector.md rule R85), nothing of the channel. -/
def Obligations.FrameEncodingIsInjective : Prop :=
  ∀ (p : Params) (c c' : Channel) (v v' : Value), encodeFrame p c v = encodeFrame p c' v' →
    v = v' ∧ (paramsAdmitted p → c = c')

/-- 41_channel_selector.md rules R82, R85, 42_busy_wait.md rule R90: the spec's own codes (those of A,
C, D PRESUMED, assumption log 1) meet the constraints. -/
def Obligations.SelectorCodesAreAdmitted : Prop :=
  paramsAdmitted specParams ∧ sel specParams .A = 0#4 ∧ sel specParams .B = 2#4 ∧
    sel specParams .C = 4#4 ∧ sel specParams .D = 6#4 ∧ sel specParams .All = 7#4

/-- 40_frame_encoder.md rules R70, R74: in either state, with no event and no change but the
response. Byte 0 for A, C and D is PRESUMED (assumption log 1). -/
def Obligations.EncodeAnswersTheFrame : Prop :=
  ∀ (c : Channel) (v : Value) (s : State), s.Ready →
    exec (.encode c v) s =
      .next { s with responses := s.responses ++ [.ok (frameNumber (encodeFrame specParams c v))] }

/-- 30_encoding.md rules R50, R54, R58, R63: what a frame row is as an instruction. Its word is the frame
of its channel and value (40_frame_encoder.md rule R70); the decoder of frames finds the two in it; and
the block, in whatever state it is, is not asked for anything and answers nothing. That a row is an
instruction at all is the model's choice (assumption log 11); byte 0 of A, C and D is PRESUMED
(log 1). -/
def Obligations.FrameRowsAreRecognised : Prop :=
  ∀ (v : Value) (s : State),
    (exec (.frameA v) s = .next { s with verdicts := s.verdicts ++ [some (.A, v)] } ∧
      encode (.frameA v) = .frame24 (frameNumber (encodeFrame specParams .A v))) ∧
    (exec (.frameB v) s = .next { s with verdicts := s.verdicts ++ [some (.B, v)] } ∧
      encode (.frameB v) = .frame24 (frameNumber (encodeFrame specParams .B v))) ∧
    (exec (.frameC v) s = .next { s with verdicts := s.verdicts ++ [some (.C, v)] } ∧
      encode (.frameC v) = .frame24 (frameNumber (encodeFrame specParams .C v))) ∧
    (exec (.frameD v) s = .next { s with verdicts := s.verdicts ++ [some (.D, v)] } ∧
      encode (.frameD v) = .frame24 (frameNumber (encodeFrame specParams .D v))) ∧
    (exec (.frameAll v) s = .next { s with verdicts := s.verdicts ++ [some (.All, v)] } ∧
      encode (.frameAll v) = .frame24 (frameNumber (encodeFrame specParams .All v)))

/-- 30_encoding.md rule R50 (the request space is the spec's decision D2): no word of the host is a frame
row, and a frame word, whatever it is and whatever the block is doing, asks the block for nothing: the
step takes it from the inputs and writes down what the decoder of frames finds (rule R58), and all else
is as it was. The decoder of frames is the model's choice (assumption log 11); the codes of A, C and D
are PRESUMED (log 1). -/
def Obligations.FrameWordsAreNeverRequests : Prop :=
  (∀ (w : Word24) (i : Instr), decode (.req24 w) = .ok i → IsOperation i) ∧
  (∀ (b : BitVec 1) (i : Instr), decode (.rst1 b) = .ok i → IsOperation i) ∧
  ∀ (s : State) (w : Word24) (rest : List Input), s.inputs = .frameSeen w :: rest →
    (∀ c v, w = frameNumber (encodeFrame specParams c v) →
      step s = .next { s with inputs := rest, verdicts := s.verdicts ++ [some (c, v)] }) ∧
    ((∀ c v, w ≠ frameNumber (encodeFrame specParams c v)) →
      step s = .next { s with inputs := rest, verdicts := s.verdicts ++ [none] })

/-! ### The channel selector -/

/-- 41_channel_selector.md rules R81, R83: four indices give a channel, every other the error, and
nothing else changes. That an invalid index does not halt the block is the spec's decision D5
(assumption log 3). -/
def Obligations.FromIndexAnswersOrFaults : Prop :=
  ∀ (i : Nat) (s : State), s.Ready →
    exec (.fromIndex i) s = .next { s with responses := s.responses ++
      [if i = 0 then .ok (channelReturn .A)
       else if i = 1 then .ok (channelReturn .B)
       else if i = 2 then .ok (channelReturn .C)
       else if i = 3 then .ok (channelReturn .D)
       else .invalidIndex] }

/-- 41_channel_selector.md rule R84: the image is the four channels, one to one on 0 to 3, and All is
never given. -/
def Obligations.IndexMapIsOntoTheFourChannels : Prop :=
  (∀ i, channelOfIndex i ≠ some .All) ∧
  (∀ i, (channelOfIndex i).isSome ↔ i < 4) ∧
  (∀ c, c ≠ .All → ∃ i, channelOfIndex i = some c ∧ ∀ j, channelOfIndex j = some c → j = i)

/-! ### Lifecycle -/

/-- 70_reset_and_hazards.md rule R151, 10_state.md rule R10: the values the spec states for reset. -/
def Obligations.ResetLeavesTheStatedValues : Prop :=
  State.reset.active = false ∧ State.reset.seq = .idle ∧ State.reset.LatchesEmpty ∧
    State.reset.lineEN = .unknown ∧ State.reset.lineSEL = .unknown ∧
    State.reset.lineRST = .unknown ∧ State.reset.pending = [] ∧ State.reset.trace = []

/-- 43_lifecycle.md rules R95, R96, 70_reset_and_hazards.md rules R150 to R153: in either state,
halted or not. That `pending` is emptied at a later reset is DEDUCED (assumption log 9). -/
def Obligations.ConstructLeavesUninitialized : Prop :=
  ∀ s : State, s.seq = .idle →
    exec .construct s = .next { s with
      active := false, halted := false, pending := [],
      opCh := none, opVal := none, opIdx := none, frame := none, busAnswer := none }

/-- 43_lifecycle.md rule R96: no line, no event, no response, and no collaborator asked. -/
def Obligations.ConstructPerformsNoIO : Prop :=
  ∀ s t : State, exec .construct s = .next t →
    t.trace = s.trace ∧ t.responses = s.responses ∧ t.lineEN = s.lineEN ∧ t.lineSEL = s.lineSEL ∧
    t.lineRST = s.lineRST ∧ t.lineReplies = s.lineReplies ∧ t.busReplies = s.busReplies ∧
    t.initiatorReplies = s.initiatorReplies

/-- 70_reset_and_hazards.md rule R153 (the spec's decision D16). -/
def Obligations.ResetDuringAnOperationIsRefused : Prop :=
  ∀ s : State, s.seq ≠ .idle →
    exec .construct s = .refused .resetWhileBusy ∧
    (s.inputs.head? = some (.reset 1#1) → step s = .refused .resetWhileBusy)

/-- 43_lifecycle.md rules R98, R100: the whole handshake in either state, whatever the lines answer;
nothing but `active`, the trace, the responses and the line side changes. Two of the nine events are
waits by the spec's decision D7 (assumption log 5). -/
def Obligations.EnableCompletes : Prop :=
  ∀ s : State, s.Ready → s.LinesReturn 7 →
    ∃ t, exec .enable s = .next t ∧
      t.withLinesOf s = { s with
        active := true, trace := s.trace ++ enableEvents, responses := s.responses ++ [.ok 0#24] }

/-- 43_lifecycle.md rule R97 with 10_state.md rule R18: each latch holds what the last drive of its
line left (vectors V-L6 to V-L9). The level after a failed drive is the answer's (assumption log 7). -/
def Obligations.EnableLatchesFollowTheAnswers : Prop :=
  ∀ (s : State) (a1 a2 a3 a4 a5 a6 a7 : LineAnswer) (rest : List (Reply LineAnswer)), s.Ready →
    s.lineReplies = .answer a1 :: .answer a2 :: .answer a3 :: .answer a4 :: .answer a5 ::
      .answer a6 :: .answer a7 :: rest →
    ∃ t, exec .enable s = .next t ∧
      t.lineEN = levelLatch (drivenLevel .high a4) ∧
      t.lineSEL = levelLatch (drivenLevel .high a3) ∧
      t.lineRST = levelLatch (drivenLevel .low a7) ∧ t.lineReplies = rest

/-- 43_lifecycle.md rules R97, R103: with every drive answered `ok`, the whole next state (the two waits:
the spec's decision D7, assumption log 5). -/
def Obligations.EnableOnObeyingLines : Prop :=
  ∀ s : State, s.Ready → s.LinesObey 7 →
    exec .enable s = .next { s with
      active := true, lineEN := .high, lineSEL := .high, lineRST := .low,
      trace := s.trace ++ enableEvents, responses := s.responses ++ [.ok 0#24],
      lineReplies := s.lineReplies.drop 7 }

/-- 43_lifecycle.md rule R97 as 10_state.md rule R17 numbers it, under any parameters: after `n` steps
of the handshake the trace has the first `n` of its nine events (two of them waits by the spec's
decision D7, assumption log 5), and the response comes with the tenth. -/
def Obligations.EnableEventsComeInOrder : Prop :=
  ∀ (p : Params) (s t : State) (n : Nat), (s.goto .enable1).runSteps p n = .next t →
    t.trace = s.trace ++ enableEvents.take n ∧
    (n ≤ 9 → t.responses = s.responses) ∧
    (10 ≤ n → t.responses = s.responses ++ [.ok 0#24] ∧ t.seq = .idle)

/-- 43_lifecycle.md rule R99, under any parameters and line answers: `active` is as it was up to the
ninth step of the handshake, and true from the tenth on. -/
def Obligations.ActiveIsSetAtTheTenthStep : Prop :=
  ∀ (p : Params) (s t : State) (n : Nat), (s.goto .enable1).runSteps p n = .next t →
    (n ≤ 9 → t.active = s.active) ∧ (10 ≤ n → t.active = true)

/-! ### Transfers -/

/-- 44_transfer.md rule R110, for both transfers: everything but the response is as it was. The
returned 0 is that of the pseudocode of rules R111 and R119. -/
def Obligations.TransfersBeforeEnableDoNothing : Prop :=
  ∀ (c : Channel) (v : Value) (s : State), s.Ready → s.active = false →
    exec (.writeBlocking c v) s = .next { s with responses := s.responses ++ [.ok 0#24] } ∧
    exec (.prepareTransfer c v) s = .next { s with responses := s.responses ++ [.ok 0#24] }

/-- 44_transfer.md rules R112, R117: any value, any earlier history, any line answers; the bus answers
`ok`. Byte 0 for A, C and D is PRESUMED (assumption log 1). -/
def Obligations.WriteBlockingSendsTheFrame : Prop :=
  ∀ (c : Channel) (v : Value) (s : State), s.Ready → s.active = true → s.LinesReturn 4 →
    s.busReply = .answer .ok →
    ∃ t, exec (.writeBlocking c v) s = .next t ∧
      (t.withLinesOf s).withBusOf s = { s with
        trace := s.trace ++ transferEvents (.bus (encodeFrame specParams c v)),
        responses := s.responses ++ [.ok 0#24] }

/-- 44_transfer.md rule R118, 60_exceptions.md rules R138, R139: after a failed bus write both closing
line events still happen, by the spec's decision D9 (assumption log 2). Byte 0 for A, C and D: log 1. -/
def Obligations.WriteBlockingAfterABusFailure : Prop :=
  ∀ (c : Channel) (v : Value) (s : State), s.Ready → s.active = true → s.LinesReturn 4 →
    s.busReply = .answer .fail →
    ∃ t, exec (.writeBlocking c v) s = .next t ∧
      (t.withLinesOf s).withBusOf s = { s with
        trace := s.trace ++ transferEvents (.bus (encodeFrame specParams c v)),
        responses := s.responses ++ [.busWriteError] }

/-- 44_transfer.md rule R118 for both readings (D9, assumption log 2): without the closing events the
trace ends at the bus write and both lines stay low (vectors V-T3, V-T4). -/
def Obligations.BusFailureUnderBothReadings : Prop :=
  ∀ (p : Params) (c : Channel) (v : Value) (s : State), s.Ready → s.active = true → s.LinesObey 4 →
    s.busReply = .answer .fail →
    ∃ t, s.writeBlockingWith p c v = .next t ∧
      t.responses = s.responses ++ [.busWriteError] ∧ t.Ready ∧ t.lineRST = s.lineRST ∧
      (p.deassertOnBusError = true →
        t.trace = s.trace ++ transferEvents (.bus (encodeFrame p c v)) ∧
        t.lineEN = .high ∧ t.lineSEL = .high) ∧
      (p.deassertOnBusError = false →
        t.trace = s.trace ++ (transferEvents (.bus (encodeFrame p c v))).take 3 ∧
        t.lineEN = .low ∧ t.lineSEL = .low)

/-- 44_transfer.md rules R119, R122, 10_state.md rule R19: any line answers; a transfer only begun
leaves its frame pending, one completed does not (assumption log 23). Byte 0 for A, C and D is PRESUMED
(log 1). -/
def Obligations.PrepareTransferCallsTheInitiator : Prop :=
  ∀ (c : Channel) (v : Value) (s : State) (a : InitiatorAnswer), s.Ready → s.active = true →
    s.LinesReturn 4 → s.initiatorReply = .answer a →
    ∃ t, exec (.prepareTransfer c v) s = .next t ∧
      (t.withLinesOf s).withInitiatorOf s = { s with
        trace := s.trace ++ transferEvents (.init (encodeFrame specParams c v)),
        responses := s.responses ++ [.ok 0#24] } ∧
      t.pending =
        (if a = .deferred then s.pending ++ [encodeFrame specParams c v] else s.pending)

/-- 44_transfer.md rules R111, R119, R124 with 10_state.md rule R18: the enable and select latches hold
what the closing drives left, the reset latch is untouched (vectors V-T5, V-T8). The level after a failed
drive is the answer's (assumption log 7); that the closing drives follow a failed bus write too is the
spec's decision D9 (log 2). -/
def Obligations.TransferLatchesFollowTheAnswers : Prop :=
  ∀ (c : Channel) (v : Value) (s t : State) (a1 a2 a3 a4 : LineAnswer)
    (rest : List (Reply LineAnswer)), s.Ready → s.active = true →
    s.lineReplies = .answer a1 :: .answer a2 :: .answer a3 :: .answer a4 :: rest →
    (exec (.writeBlocking c v) s = .next t ∨ exec (.prepareTransfer c v) s = .next t) →
      t.lineEN = levelLatch (drivenLevel .high a4) ∧
      t.lineSEL = levelLatch (drivenLevel .high a3) ∧
      t.lineRST = s.lineRST ∧ t.lineReplies = rest

/-- 44_transfer.md rule R123: whatever the collaborators answer, and whether `active` or not. -/
def Obligations.TransfersKeepTheHeldState : Prop :=
  ∀ (c : Channel) (v : Value) (s t : State), s.Ready →
    (exec (.writeBlocking c v) s = .next t ∨ exec (.prepareTransfer c v) s = .next t) →
      t.active = s.active ∧ t.Ready

/-- 44_transfer.md rule R114: the outcome is the bus answer and nothing else, `OK` before `ENABLE`. -/
def Obligations.WriteOutcomeIsTheBusAnswer : Prop :=
  ∀ (c : Channel) (v : Value) (s t : State), exec (.writeBlocking c v) s = .next t →
    (s.active = true → s.busReply = .answer .ok → t.responses = s.responses ++ [.ok 0#24]) ∧
    (s.active = true → s.busReply = .answer .fail → t.responses = s.responses ++ [.busWriteError]) ∧
    (s.active = false → t.responses = s.responses ++ [.ok 0#24])

/-- 44_transfer.md rule R113, over all instructions: the block writes the bus exactly once in a
`WRITE_BLOCKING` while `active`, the frame of its operands, and never otherwise. -/
def Obligations.BusWritesAreTheActiveWrites : Prop :=
  ∀ (i : Instr) (s t : State), exec i s = .next t →
    (∀ c v, i = .writeBlocking c v → s.active = true →
      busTrace t.trace = busTrace s.trace ++ [encodeFrame specParams c v]) ∧
    ((∀ c v, i ≠ .writeBlocking c v) ∨ s.active = false → busTrace t.trace = busTrace s.trace)

/-- 44_transfer.md rule R120, over all instructions: the initiator is called exactly once in a
`PREPARE_TRANSFER` while `active`, between `select:low` and `select:high`, and never otherwise; and a
`PREPARE_TRANSFER` writes no bus. -/
def Obligations.InitiatorCallsAreTheActivePrepares : Prop :=
  ∀ (i : Instr) (s t : State), exec i s = .next t →
    (∀ c v, i = .prepareTransfer c v → busTrace t.trace = busTrace s.trace ∧
      (s.active = true → t.trace = s.trace ++ [.line .EN .low, .line .SEL .low,
        .init (encodeFrame specParams c v), .line .SEL .high, .line .EN .high])) ∧
    ((∀ c v, i ≠ .prepareTransfer c v) ∨ s.active = false →
      initiatorCalls t.trace = initiatorCalls s.trace)

/-! ### Rules over all instructions -/

/-- 10_state.md rule R11, 43_lifecycle.md rule R104: who writes `active`, and what. -/
def Obligations.ActiveIsWrittenByTwoOperations : Prop :=
  ∀ (i : Instr) (s t : State), exec i s = .next t →
    (i = .construct → t.active = false) ∧ (i = .enable → t.active = true) ∧
    (i ≠ .construct → i ≠ .enable → t.active = s.active)

/-- 10_state.md rule R12: only the two transfers read `active`. Every other instruction does the same
whatever the flag holds: the same stop, or next states that differ in the flag alone. -/
def Obligations.ActiveIsReadByTheTransfersOnly : Prop :=
  ∀ (i : Instr) (s : State) (b : Bool), (∀ c v, i ≠ .writeBlocking c v) →
    (∀ c v, i ≠ .prepareTransfer c v) →
    (∀ t, exec i s = .next t → ∃ b', exec i { s with active := b } = .next { t with active := b' }) ∧
    (∀ r, exec i s = .fault r → exec i { s with active := b } = .fault r) ∧
    (∀ r, exec i s = .refused r → exec i { s with active := b } = .refused r)

/-- 60_exceptions.md rule R132, 44_transfer.md rule R115: put any other line side (levels and answers
that return) in place of the one an operation had, and it still runs to its end, to a state that
differs on the line side only. -/
def Obligations.LineAnswersAreDiscarded : Prop :=
  ∀ (i : Instr) (s u t : State), exec i s = .next t → u.LinesReturn 7 →
    ∃ t', exec i (s.withLinesOf u) = .next t' ∧ t'.withLinesOf t = t

/-- 30_encoding.md rule R63, 60_exceptions.md rules R130, R131, R133, R137: each operation ends with
the one response of the table, `CONSTRUCT` with none, and a frame row, no operation (rule R50), with none.
Rests on assumption logs 1 (codes of A, C, D), 3 (`INVALID_INDEX` is an answer) and 11 (frame rows). -/
def Obligations.EveryOperationAnswersByTheTable : Prop :=
  ∀ (i : Instr) (s t : State), exec i s = .next t →
    t.responses = s.responses ++ expectedResponses s.active s.busReply i

/-- 60_exceptions.md rule R131, over all instructions: when, and only when, a write in the active state
meets a failing bus. -/
def Obligations.BusWriteErrorOnlyFromAFailedWrite : Prop :=
  ∀ (i : Instr) (s t : State), exec i s = .next t →
    (t.responses = s.responses ++ [.busWriteError] ↔
      (∃ c v, i = .writeBlocking c v) ∧ s.active = true ∧ s.busReply = .answer .fail)

/-- 60_exceptions.md rule R140, 10_state.md rule R21: after any response the block takes the next
operation. -/
def Obligations.OperationsEndReady : Prop :=
  ∀ (i : Instr) (s t : State), s.Ready → exec i s = .next t → t.Ready

/-- 43_lifecycle.md rule R103, 44_transfer.md rule R124: no operation but `ENABLE` drives the reset
line. -/
def Obligations.ResetLineIsDrivenByEnableOnly : Prop :=
  ∀ (i : Instr) (s t : State), i ≠ .enable → exec i s = .next t →
    t.lineRST = s.lineRST ∧
    (pinTrace t.trace).filter (fun e => e.1 = .RST) = (pinTrace s.trace).filter (fun e => e.1 = .RST)

/-- 42_busy_wait.md rule R91 (two waits by the spec's decision D7, assumption log 5). -/
def Obligations.WaitsAreTwoPerEnable : Prop :=
  ∀ (i : Instr) (s t : State), exec i s = .next t →
    t.trace.count .wait = s.trace.count .wait + if i = .enable then 2 else 0

/-- 10_state.md rule R19, 44_transfer.md rule R122: only a deferred call adds to `pending`, and of the
operations only `CONSTRUCT` takes from it (DEDUCED, assumption log 9). -/
def Obligations.PendingGrowsByDeferredCallsOnly : Prop :=
  ∀ (i : Instr) (s t : State), exec i s = .next t →
    (i = .construct → t.pending = []) ∧
    (∀ c v, i = .prepareTransfer c v → s.active = true → s.initiatorReply = .answer .deferred →
      t.pending = s.pending ++ [encodeFrame specParams c v]) ∧
    (i ≠ .construct →
      (∀ c v, i = .prepareTransfer c v → s.active = true → s.initiatorReply = .answer .sent) →
      t.pending = s.pending)

/-- 60_exceptions.md rule R144: an operation that needs a call that never returns has no final state. That
it ends in the fault `neverReturned` is the model's choice (DEDUCED, assumption log 20); that a write
whose bus answered `fail` still needs its closing drives is the spec's decision D9 (log 2). -/
def Obligations.CallsThatNeverReturnHaveNoFinalState : Prop :=
  ∀ (c : Channel) (v : Value) (s : State), s.Ready →
    (¬ s.LinesReturn 7 → exec .enable s = .fault (.neverReturned .line)) ∧
    (s.active = true → ¬ s.LinesReturn 4 ∨ ¬ s.BusReturns →
      ∃ who, exec (.writeBlocking c v) s = .fault (.neverReturned who)) ∧
    (s.active = true → ¬ s.LinesReturn 4 ∨ ¬ s.InitiatorReturns →
      ∃ who, exec (.prepareTransfer c v) s = .fault (.neverReturned who))

/-- 60_exceptions.md rule R147 under `ABORT_ON_INVALID_INDEX` (D5, assumption log 3): no response, no
event, no further operation, and only `CONSTRUCT` revives the block. -/
def Obligations.AbortReadingHaltsUntilConstruct : Prop :=
  ∀ (p : Params) (n : Nat) (s : State), s.Ready → p.abortOnInvalidIndex = true → 4 ≤ n →
    ∃ t, s.fromIndexWith p n = .next t ∧ t = { s with halted := true } ∧
      (∀ i, IsOperation i → i ≠ .construct → exec i t = .fault .haltedByInvalidIndex) ∧
      ∃ u, exec .construct t = .next u ∧ u.Ready

/-! ### The step -/

/-- An idle block runs the operation the presented request decodes to (70_reset_and_hazards.md rule
R165), or `CONSTRUCT` on the reset input (30_encoding.md rule R64); the step takes the word from the
inputs and adds nothing else. The input list is the model's own (assumption log 13). Frame words:
`FrameWordsAreNeverRequests`. -/
def Obligations.StepRunsTheDecodedInstruction : Prop :=
  ∀ (s : State) (rest : List Input) (i : Instr), s.seq = .idle →
    (∀ w, s.inputs = .request w :: rest → decode (.req24 w) = .ok i →
      step s = exec i { s with inputs := rest }) ∧
    (∀ b, s.inputs = .reset b :: rest → decode (.rst1 b) = .ok i →
      step s = exec i { s with inputs := rest })

/-- What a step does without an instruction. That `RST1` = 0 is no operation is 30_encoding.md rule R64;
that it is taken from the inputs, by a busy block too, is the model's choice (assumption logs 13, 16).
That an idle block with no input stays as it is, is the model's choice (log 13). 10_state.md rule R19
says what `pending` is and that no rule of the block reads it, and gives no event for a frame that
leaves: that the input `frameLeft` takes one copy of it out of `pending`, and changes nothing else, is
the model's choice (log 10). -/
def Obligations.StepWithoutAnInstruction : Prop :=
  ∀ (s : State) (rest : List Input) (f : Frame),
    (s.seq = .idle → s.inputs = [] → step s = .next s) ∧
    (s.inputs = .reset 0#1 :: rest → step s = .next { s with inputs := rest }) ∧
    (s.inputs = .frameLeft f :: rest →
      step s = .next { s with inputs := rest, pending := s.pending.erase f })

/-- 70_reset_and_hazards.md rule R165 (the spec's decision D13): a busy block accepts no operation; a
presented request stays with the host and the sequencer goes on. -/
def Obligations.BusyBlockAcceptsNothing : Prop :=
  ∀ (s : State) (w : Word24), s.seq ≠ .idle →
    (∀ i, IsOperation i → i ≠ .construct → exec i s = .refused .blockBusy) ∧
    (s.inputs.head? = some (.request w) ∨ s.inputs = [] →
      step s = s.advance specParams ∧ ∀ t, step s = .next t → t.inputs = s.inputs)

/-- 10_state.md rule R17: the sequencer goes to the next number, or to `IDLE` from the last step of its
operation; the one other way is the parameter's, past the closing line events after a failed bus
write (44_transfer.md rule R118). -/
def Obligations.SequencerGoesOneStepAtATime : Prop :=
  ∀ (p : Params) (s t : State), s.seq ≠ .idle → s.advance p = .next t →
    (t.seq = .idle ∧ (s.seq = .enable10 ∨ s.seq = .write7 ∨ s.seq = .prepare6)) ∨
    seqNumber t.seq = seqNumber s.seq + 1 ∨
    (s.seq = .write4 ∧ t.seq = .write7 ∧ s.busReply = .answer .fail ∧
      p.deassertOnBusError = false)

/-- 10_state.md rule R17, 42_busy_wait.md rule R93, 60_exceptions.md rule R144: from any consistent
position the operation ends, if every call returns. -/
def Obligations.SequencerReachesIdle : Prop :=
  ∀ (p : Params) (s : State), s.Consistent p → s.LinesReturn 7 → s.BusReturns →
    s.InitiatorReturns → ∃ t, s.runSteps p 10 = .next t ∧ t.seq = .idle

/-- 20_memory.md rule R39: no step drops, reorders or changes an event of the past. That the responses
of the past are kept in the same way is the model's choice (assumption log 19): the spec keeps no result
code (10_state.md section 6). -/
def Obligations.StepsOnlyAppend : Prop :=
  ∀ s t : State, step s = .next t → s.trace <+: t.trace ∧ s.responses <+: t.responses

/-- 10_state.md rule R11, 43_lifecycle.md rule R104, over all steps: `active` falls only in
`CONSTRUCT`, and rises only in `ENABLE`. -/
def Obligations.ActiveChangesOnlyInItsOperations : Prop :=
  ∀ s t : State, step s = .next t →
    (s.active = true → t.active = false → s.nextInstr = some .construct) ∧
    (s.active = false → t.active = true → s.nextInstr = some .enable ∨ s.seq = .enable10)

/-! ### Invariants -/

/-- Reset meets the invariants. -/
def Obligations.ResetMeetsTheInvariants : Prop :=
  State.reset.Consistent specParams ∧ State.reset.EmitsOnlyRows ∧ State.reset.halted = false ∧
    (State.reset.active = true → State.reset.AtRest)

/-- 10_state.md rules R15, R16, R17, R21: every step keeps the transient latches what the sequencer
position says they are. -/
def Obligations.StepKeepsConsistency : Prop :=
  ∀ s t : State, s.Consistent specParams → step s = .next t → t.Consistent specParams

/-- 30_encoding.md rule R58: the bus and the initiator only ever get frames of the five rows (with the
codes of A, C, D PRESUMED, assumption log 1). -/
def Obligations.StepKeepsEmittedFramesInTheRows : Prop :=
  ∀ s t : State, s.Consistent specParams → s.EmitsOnlyRows → step s = .next t → t.EmitsOnlyRows

/-- 44_transfer.md rule R124, 43_lifecycle.md rule R103: while the lines obey, an enabled block is at
rest between operations: enable high, select high, reset low. After a failed bus write this rests on
D9 (assumption log 2). -/
def Obligations.StepKeepsTheRestLevels : Prop :=
  ∀ s t : State, s.Ready → s.LinesObey 7 → (s.active = true → s.AtRest) → step s = .next t →
    (t.active = true → t.AtRest)

/-- 60_exceptions.md rule R147 with the default of D5 (assumption log 3): the rule "has no effect". -/
def Obligations.StepNeverHalts : Prop :=
  ∀ s t : State, s.halted = false → step s = .next t → t.halted = false

/-- No step of a consistent state reads an operand, a frame or an answer that is not there
(10_state.md rules R15, R16). -/
def Obligations.NoStepReadsAnEmptyLatch : Prop :=
  ∀ s : State, s.Consistent specParams → step s ≠ .fault .latchEmpty
end

