-- ==== Sys2Proof/Laws/State.lean ====
section
/-!
SUPPORT. One lemma per field per update of the state, so that no later proof unfolds an update.
-/

namespace Sys2Proof.Machine

variable (s : State)

/-- States with the same fields are equal. -/
@[ext] theorem State.eq_of_fields {s t : State}
    (h_active : s.active = t.active) (h_seq : s.seq = t.seq) (h_opCh : s.opCh = t.opCh)
    (h_opVal : s.opVal = t.opVal) (h_opIdx : s.opIdx = t.opIdx) (h_frame : s.frame = t.frame)
    (h_busAnswer : s.busAnswer = t.busAnswer) (h_halted : s.halted = t.halted) (h_lineEN : s.lineEN = t.lineEN)
    (h_lineSEL : s.lineSEL = t.lineSEL) (h_lineRST : s.lineRST = t.lineRST) (h_pending : s.pending = t.pending)
    (h_trace : s.trace = t.trace) (h_responses : s.responses = t.responses) (h_verdicts : s.verdicts = t.verdicts)
    (h_inputs : s.inputs = t.inputs) (h_lineReplies : s.lineReplies = t.lineReplies) (h_busReplies : s.busReplies = t.busReplies)
    (h_initiatorReplies : s.initiatorReplies = t.initiatorReplies) (h_lineDraws : s.lineDraws = t.lineDraws) (h_busDraws : s.busDraws = t.busDraws)
    (h_initiatorDraws : s.initiatorDraws = t.initiatorDraws)
    : s = t := by
  cases s
  cases t
  simp_all

/-! ### `State.activate` -/

@[simp] theorem State.activate_active : s.activate.active = true := rfl
@[simp] theorem State.activate_seq : s.activate.seq = s.seq := rfl
@[simp] theorem State.activate_opCh : s.activate.opCh = s.opCh := rfl
@[simp] theorem State.activate_opVal : s.activate.opVal = s.opVal := rfl
@[simp] theorem State.activate_opIdx : s.activate.opIdx = s.opIdx := rfl
@[simp] theorem State.activate_frame : s.activate.frame = s.frame := rfl
@[simp] theorem State.activate_busAnswer : s.activate.busAnswer = s.busAnswer := rfl
@[simp] theorem State.activate_halted : s.activate.halted = s.halted := rfl
@[simp] theorem State.activate_lineEN : s.activate.lineEN = s.lineEN := rfl
@[simp] theorem State.activate_lineSEL : s.activate.lineSEL = s.lineSEL := rfl
@[simp] theorem State.activate_lineRST : s.activate.lineRST = s.lineRST := rfl
@[simp] theorem State.activate_pending : s.activate.pending = s.pending := rfl
@[simp] theorem State.activate_trace : s.activate.trace = s.trace := rfl
@[simp] theorem State.activate_responses : s.activate.responses = s.responses := rfl
@[simp] theorem State.activate_verdicts : s.activate.verdicts = s.verdicts := rfl
@[simp] theorem State.activate_inputs : s.activate.inputs = s.inputs := rfl
@[simp] theorem State.activate_lineReplies : s.activate.lineReplies = s.lineReplies := rfl
@[simp] theorem State.activate_busReplies : s.activate.busReplies = s.busReplies := rfl
@[simp] theorem State.activate_initiatorReplies : s.activate.initiatorReplies = s.initiatorReplies := rfl
@[simp] theorem State.activate_lineDraws : s.activate.lineDraws = s.lineDraws := rfl
@[simp] theorem State.activate_busDraws : s.activate.busDraws = s.busDraws := rfl
@[simp] theorem State.activate_initiatorDraws : s.activate.initiatorDraws = s.initiatorDraws := rfl

/-! ### `State.deactivate` -/

@[simp] theorem State.deactivate_active : s.deactivate.active = false := rfl
@[simp] theorem State.deactivate_seq : s.deactivate.seq = s.seq := rfl
@[simp] theorem State.deactivate_opCh : s.deactivate.opCh = s.opCh := rfl
@[simp] theorem State.deactivate_opVal : s.deactivate.opVal = s.opVal := rfl
@[simp] theorem State.deactivate_opIdx : s.deactivate.opIdx = s.opIdx := rfl
@[simp] theorem State.deactivate_frame : s.deactivate.frame = s.frame := rfl
@[simp] theorem State.deactivate_busAnswer : s.deactivate.busAnswer = s.busAnswer := rfl
@[simp] theorem State.deactivate_halted : s.deactivate.halted = s.halted := rfl
@[simp] theorem State.deactivate_lineEN : s.deactivate.lineEN = s.lineEN := rfl
@[simp] theorem State.deactivate_lineSEL : s.deactivate.lineSEL = s.lineSEL := rfl
@[simp] theorem State.deactivate_lineRST : s.deactivate.lineRST = s.lineRST := rfl
@[simp] theorem State.deactivate_pending : s.deactivate.pending = s.pending := rfl
@[simp] theorem State.deactivate_trace : s.deactivate.trace = s.trace := rfl
@[simp] theorem State.deactivate_responses : s.deactivate.responses = s.responses := rfl
@[simp] theorem State.deactivate_verdicts : s.deactivate.verdicts = s.verdicts := rfl
@[simp] theorem State.deactivate_inputs : s.deactivate.inputs = s.inputs := rfl
@[simp] theorem State.deactivate_lineReplies : s.deactivate.lineReplies = s.lineReplies := rfl
@[simp] theorem State.deactivate_busReplies : s.deactivate.busReplies = s.busReplies := rfl
@[simp] theorem State.deactivate_initiatorReplies : s.deactivate.initiatorReplies = s.initiatorReplies := rfl
@[simp] theorem State.deactivate_lineDraws : s.deactivate.lineDraws = s.lineDraws := rfl
@[simp] theorem State.deactivate_busDraws : s.deactivate.busDraws = s.busDraws := rfl
@[simp] theorem State.deactivate_initiatorDraws : s.deactivate.initiatorDraws = s.initiatorDraws := rfl

/-! ### `State.halt` -/

@[simp] theorem State.halt_active : s.halt.active = s.active := rfl
@[simp] theorem State.halt_seq : s.halt.seq = s.seq := rfl
@[simp] theorem State.halt_opCh : s.halt.opCh = s.opCh := rfl
@[simp] theorem State.halt_opVal : s.halt.opVal = s.opVal := rfl
@[simp] theorem State.halt_opIdx : s.halt.opIdx = s.opIdx := rfl
@[simp] theorem State.halt_frame : s.halt.frame = s.frame := rfl
@[simp] theorem State.halt_busAnswer : s.halt.busAnswer = s.busAnswer := rfl
@[simp] theorem State.halt_halted : s.halt.halted = true := rfl
@[simp] theorem State.halt_lineEN : s.halt.lineEN = s.lineEN := rfl
@[simp] theorem State.halt_lineSEL : s.halt.lineSEL = s.lineSEL := rfl
@[simp] theorem State.halt_lineRST : s.halt.lineRST = s.lineRST := rfl
@[simp] theorem State.halt_pending : s.halt.pending = s.pending := rfl
@[simp] theorem State.halt_trace : s.halt.trace = s.trace := rfl
@[simp] theorem State.halt_responses : s.halt.responses = s.responses := rfl
@[simp] theorem State.halt_verdicts : s.halt.verdicts = s.verdicts := rfl
@[simp] theorem State.halt_inputs : s.halt.inputs = s.inputs := rfl
@[simp] theorem State.halt_lineReplies : s.halt.lineReplies = s.lineReplies := rfl
@[simp] theorem State.halt_busReplies : s.halt.busReplies = s.busReplies := rfl
@[simp] theorem State.halt_initiatorReplies : s.halt.initiatorReplies = s.initiatorReplies := rfl
@[simp] theorem State.halt_lineDraws : s.halt.lineDraws = s.lineDraws := rfl
@[simp] theorem State.halt_busDraws : s.halt.busDraws = s.busDraws := rfl
@[simp] theorem State.halt_initiatorDraws : s.halt.initiatorDraws = s.initiatorDraws := rfl

/-! ### `State.revive` -/

@[simp] theorem State.revive_active : s.revive.active = s.active := rfl
@[simp] theorem State.revive_seq : s.revive.seq = s.seq := rfl
@[simp] theorem State.revive_opCh : s.revive.opCh = s.opCh := rfl
@[simp] theorem State.revive_opVal : s.revive.opVal = s.opVal := rfl
@[simp] theorem State.revive_opIdx : s.revive.opIdx = s.opIdx := rfl
@[simp] theorem State.revive_frame : s.revive.frame = s.frame := rfl
@[simp] theorem State.revive_busAnswer : s.revive.busAnswer = s.busAnswer := rfl
@[simp] theorem State.revive_halted : s.revive.halted = false := rfl
@[simp] theorem State.revive_lineEN : s.revive.lineEN = s.lineEN := rfl
@[simp] theorem State.revive_lineSEL : s.revive.lineSEL = s.lineSEL := rfl
@[simp] theorem State.revive_lineRST : s.revive.lineRST = s.lineRST := rfl
@[simp] theorem State.revive_pending : s.revive.pending = s.pending := rfl
@[simp] theorem State.revive_trace : s.revive.trace = s.trace := rfl
@[simp] theorem State.revive_responses : s.revive.responses = s.responses := rfl
@[simp] theorem State.revive_verdicts : s.revive.verdicts = s.verdicts := rfl
@[simp] theorem State.revive_inputs : s.revive.inputs = s.inputs := rfl
@[simp] theorem State.revive_lineReplies : s.revive.lineReplies = s.lineReplies := rfl
@[simp] theorem State.revive_busReplies : s.revive.busReplies = s.busReplies := rfl
@[simp] theorem State.revive_initiatorReplies : s.revive.initiatorReplies = s.initiatorReplies := rfl
@[simp] theorem State.revive_lineDraws : s.revive.lineDraws = s.lineDraws := rfl
@[simp] theorem State.revive_busDraws : s.revive.busDraws = s.busDraws := rfl
@[simp] theorem State.revive_initiatorDraws : s.revive.initiatorDraws = s.initiatorDraws := rfl

/-! ### `State.emit` -/

@[simp] theorem State.emit_active (e : Event) : (s.emit e).active = s.active := rfl
@[simp] theorem State.emit_seq (e : Event) : (s.emit e).seq = s.seq := rfl
@[simp] theorem State.emit_opCh (e : Event) : (s.emit e).opCh = s.opCh := rfl
@[simp] theorem State.emit_opVal (e : Event) : (s.emit e).opVal = s.opVal := rfl
@[simp] theorem State.emit_opIdx (e : Event) : (s.emit e).opIdx = s.opIdx := rfl
@[simp] theorem State.emit_frame (e : Event) : (s.emit e).frame = s.frame := rfl
@[simp] theorem State.emit_busAnswer (e : Event) : (s.emit e).busAnswer = s.busAnswer := rfl
@[simp] theorem State.emit_halted (e : Event) : (s.emit e).halted = s.halted := rfl
@[simp] theorem State.emit_lineEN (e : Event) : (s.emit e).lineEN = s.lineEN := rfl
@[simp] theorem State.emit_lineSEL (e : Event) : (s.emit e).lineSEL = s.lineSEL := rfl
@[simp] theorem State.emit_lineRST (e : Event) : (s.emit e).lineRST = s.lineRST := rfl
@[simp] theorem State.emit_pending (e : Event) : (s.emit e).pending = s.pending := rfl
@[simp] theorem State.emit_trace (e : Event) : (s.emit e).trace = s.trace ++ [e] := rfl
@[simp] theorem State.emit_responses (e : Event) : (s.emit e).responses = s.responses := rfl
@[simp] theorem State.emit_verdicts (e : Event) : (s.emit e).verdicts = s.verdicts := rfl
@[simp] theorem State.emit_inputs (e : Event) : (s.emit e).inputs = s.inputs := rfl
@[simp] theorem State.emit_lineReplies (e : Event) : (s.emit e).lineReplies = s.lineReplies := rfl
@[simp] theorem State.emit_busReplies (e : Event) : (s.emit e).busReplies = s.busReplies := rfl
@[simp] theorem State.emit_initiatorReplies (e : Event) : (s.emit e).initiatorReplies = s.initiatorReplies := rfl
@[simp] theorem State.emit_lineDraws (e : Event) : (s.emit e).lineDraws = s.lineDraws := rfl
@[simp] theorem State.emit_busDraws (e : Event) : (s.emit e).busDraws = s.busDraws := rfl
@[simp] theorem State.emit_initiatorDraws (e : Event) : (s.emit e).initiatorDraws = s.initiatorDraws := rfl

/-! ### `State.goto` -/

@[simp] theorem State.goto_active (q : Seq) : (s.goto q).active = s.active := rfl
@[simp] theorem State.goto_seq (q : Seq) : (s.goto q).seq = q := rfl
@[simp] theorem State.goto_opCh (q : Seq) : (s.goto q).opCh = s.opCh := rfl
@[simp] theorem State.goto_opVal (q : Seq) : (s.goto q).opVal = s.opVal := rfl
@[simp] theorem State.goto_opIdx (q : Seq) : (s.goto q).opIdx = s.opIdx := rfl
@[simp] theorem State.goto_frame (q : Seq) : (s.goto q).frame = s.frame := rfl
@[simp] theorem State.goto_busAnswer (q : Seq) : (s.goto q).busAnswer = s.busAnswer := rfl
@[simp] theorem State.goto_halted (q : Seq) : (s.goto q).halted = s.halted := rfl
@[simp] theorem State.goto_lineEN (q : Seq) : (s.goto q).lineEN = s.lineEN := rfl
@[simp] theorem State.goto_lineSEL (q : Seq) : (s.goto q).lineSEL = s.lineSEL := rfl
@[simp] theorem State.goto_lineRST (q : Seq) : (s.goto q).lineRST = s.lineRST := rfl
@[simp] theorem State.goto_pending (q : Seq) : (s.goto q).pending = s.pending := rfl
@[simp] theorem State.goto_trace (q : Seq) : (s.goto q).trace = s.trace := rfl
@[simp] theorem State.goto_responses (q : Seq) : (s.goto q).responses = s.responses := rfl
@[simp] theorem State.goto_verdicts (q : Seq) : (s.goto q).verdicts = s.verdicts := rfl
@[simp] theorem State.goto_inputs (q : Seq) : (s.goto q).inputs = s.inputs := rfl
@[simp] theorem State.goto_lineReplies (q : Seq) : (s.goto q).lineReplies = s.lineReplies := rfl
@[simp] theorem State.goto_busReplies (q : Seq) : (s.goto q).busReplies = s.busReplies := rfl
@[simp] theorem State.goto_initiatorReplies (q : Seq) : (s.goto q).initiatorReplies = s.initiatorReplies := rfl
@[simp] theorem State.goto_lineDraws (q : Seq) : (s.goto q).lineDraws = s.lineDraws := rfl
@[simp] theorem State.goto_busDraws (q : Seq) : (s.goto q).busDraws = s.busDraws := rfl
@[simp] theorem State.goto_initiatorDraws (q : Seq) : (s.goto q).initiatorDraws = s.initiatorDraws := rfl

/-! ### `State.latchTransfer` -/

@[simp] theorem State.latchTransfer_active (c : Channel) (v : Value) : (s.latchTransfer c v).active = s.active := rfl
@[simp] theorem State.latchTransfer_seq (c : Channel) (v : Value) : (s.latchTransfer c v).seq = s.seq := rfl
@[simp] theorem State.latchTransfer_opCh (c : Channel) (v : Value) : (s.latchTransfer c v).opCh = some c := rfl
@[simp] theorem State.latchTransfer_opVal (c : Channel) (v : Value) : (s.latchTransfer c v).opVal = some v := rfl
@[simp] theorem State.latchTransfer_opIdx (c : Channel) (v : Value) : (s.latchTransfer c v).opIdx = s.opIdx := rfl
@[simp] theorem State.latchTransfer_frame (c : Channel) (v : Value) : (s.latchTransfer c v).frame = s.frame := rfl
@[simp] theorem State.latchTransfer_busAnswer (c : Channel) (v : Value) : (s.latchTransfer c v).busAnswer = s.busAnswer := rfl
@[simp] theorem State.latchTransfer_halted (c : Channel) (v : Value) : (s.latchTransfer c v).halted = s.halted := rfl
@[simp] theorem State.latchTransfer_lineEN (c : Channel) (v : Value) : (s.latchTransfer c v).lineEN = s.lineEN := rfl
@[simp] theorem State.latchTransfer_lineSEL (c : Channel) (v : Value) : (s.latchTransfer c v).lineSEL = s.lineSEL := rfl
@[simp] theorem State.latchTransfer_lineRST (c : Channel) (v : Value) : (s.latchTransfer c v).lineRST = s.lineRST := rfl
@[simp] theorem State.latchTransfer_pending (c : Channel) (v : Value) : (s.latchTransfer c v).pending = s.pending := rfl
@[simp] theorem State.latchTransfer_trace (c : Channel) (v : Value) : (s.latchTransfer c v).trace = s.trace := rfl
@[simp] theorem State.latchTransfer_responses (c : Channel) (v : Value) : (s.latchTransfer c v).responses = s.responses := rfl
@[simp] theorem State.latchTransfer_verdicts (c : Channel) (v : Value) : (s.latchTransfer c v).verdicts = s.verdicts := rfl
@[simp] theorem State.latchTransfer_inputs (c : Channel) (v : Value) : (s.latchTransfer c v).inputs = s.inputs := rfl
@[simp] theorem State.latchTransfer_lineReplies (c : Channel) (v : Value) : (s.latchTransfer c v).lineReplies = s.lineReplies := rfl
@[simp] theorem State.latchTransfer_busReplies (c : Channel) (v : Value) : (s.latchTransfer c v).busReplies = s.busReplies := rfl
@[simp] theorem State.latchTransfer_initiatorReplies (c : Channel) (v : Value) : (s.latchTransfer c v).initiatorReplies = s.initiatorReplies := rfl
@[simp] theorem State.latchTransfer_lineDraws (c : Channel) (v : Value) : (s.latchTransfer c v).lineDraws = s.lineDraws := rfl
@[simp] theorem State.latchTransfer_busDraws (c : Channel) (v : Value) : (s.latchTransfer c v).busDraws = s.busDraws := rfl
@[simp] theorem State.latchTransfer_initiatorDraws (c : Channel) (v : Value) : (s.latchTransfer c v).initiatorDraws = s.initiatorDraws := rfl

/-! ### `State.latchIndex` -/

@[simp] theorem State.latchIndex_active (i : Nat) : (s.latchIndex i).active = s.active := rfl
@[simp] theorem State.latchIndex_seq (i : Nat) : (s.latchIndex i).seq = s.seq := rfl
@[simp] theorem State.latchIndex_opCh (i : Nat) : (s.latchIndex i).opCh = s.opCh := rfl
@[simp] theorem State.latchIndex_opVal (i : Nat) : (s.latchIndex i).opVal = s.opVal := rfl
@[simp] theorem State.latchIndex_opIdx (i : Nat) : (s.latchIndex i).opIdx = some i := rfl
@[simp] theorem State.latchIndex_frame (i : Nat) : (s.latchIndex i).frame = s.frame := rfl
@[simp] theorem State.latchIndex_busAnswer (i : Nat) : (s.latchIndex i).busAnswer = s.busAnswer := rfl
@[simp] theorem State.latchIndex_halted (i : Nat) : (s.latchIndex i).halted = s.halted := rfl
@[simp] theorem State.latchIndex_lineEN (i : Nat) : (s.latchIndex i).lineEN = s.lineEN := rfl
@[simp] theorem State.latchIndex_lineSEL (i : Nat) : (s.latchIndex i).lineSEL = s.lineSEL := rfl
@[simp] theorem State.latchIndex_lineRST (i : Nat) : (s.latchIndex i).lineRST = s.lineRST := rfl
@[simp] theorem State.latchIndex_pending (i : Nat) : (s.latchIndex i).pending = s.pending := rfl
@[simp] theorem State.latchIndex_trace (i : Nat) : (s.latchIndex i).trace = s.trace := rfl
@[simp] theorem State.latchIndex_responses (i : Nat) : (s.latchIndex i).responses = s.responses := rfl
@[simp] theorem State.latchIndex_verdicts (i : Nat) : (s.latchIndex i).verdicts = s.verdicts := rfl
@[simp] theorem State.latchIndex_inputs (i : Nat) : (s.latchIndex i).inputs = s.inputs := rfl
@[simp] theorem State.latchIndex_lineReplies (i : Nat) : (s.latchIndex i).lineReplies = s.lineReplies := rfl
@[simp] theorem State.latchIndex_busReplies (i : Nat) : (s.latchIndex i).busReplies = s.busReplies := rfl
@[simp] theorem State.latchIndex_initiatorReplies (i : Nat) : (s.latchIndex i).initiatorReplies = s.initiatorReplies := rfl
@[simp] theorem State.latchIndex_lineDraws (i : Nat) : (s.latchIndex i).lineDraws = s.lineDraws := rfl
@[simp] theorem State.latchIndex_busDraws (i : Nat) : (s.latchIndex i).busDraws = s.busDraws := rfl
@[simp] theorem State.latchIndex_initiatorDraws (i : Nat) : (s.latchIndex i).initiatorDraws = s.initiatorDraws := rfl

/-! ### `State.holdFrame` -/

@[simp] theorem State.holdFrame_active (f : Frame) : (s.holdFrame f).active = s.active := rfl
@[simp] theorem State.holdFrame_seq (f : Frame) : (s.holdFrame f).seq = s.seq := rfl
@[simp] theorem State.holdFrame_opCh (f : Frame) : (s.holdFrame f).opCh = s.opCh := rfl
@[simp] theorem State.holdFrame_opVal (f : Frame) : (s.holdFrame f).opVal = s.opVal := rfl
@[simp] theorem State.holdFrame_opIdx (f : Frame) : (s.holdFrame f).opIdx = s.opIdx := rfl
@[simp] theorem State.holdFrame_frame (f : Frame) : (s.holdFrame f).frame = some f := rfl
@[simp] theorem State.holdFrame_busAnswer (f : Frame) : (s.holdFrame f).busAnswer = s.busAnswer := rfl
@[simp] theorem State.holdFrame_halted (f : Frame) : (s.holdFrame f).halted = s.halted := rfl
@[simp] theorem State.holdFrame_lineEN (f : Frame) : (s.holdFrame f).lineEN = s.lineEN := rfl
@[simp] theorem State.holdFrame_lineSEL (f : Frame) : (s.holdFrame f).lineSEL = s.lineSEL := rfl
@[simp] theorem State.holdFrame_lineRST (f : Frame) : (s.holdFrame f).lineRST = s.lineRST := rfl
@[simp] theorem State.holdFrame_pending (f : Frame) : (s.holdFrame f).pending = s.pending := rfl
@[simp] theorem State.holdFrame_trace (f : Frame) : (s.holdFrame f).trace = s.trace := rfl
@[simp] theorem State.holdFrame_responses (f : Frame) : (s.holdFrame f).responses = s.responses := rfl
@[simp] theorem State.holdFrame_verdicts (f : Frame) : (s.holdFrame f).verdicts = s.verdicts := rfl
@[simp] theorem State.holdFrame_inputs (f : Frame) : (s.holdFrame f).inputs = s.inputs := rfl
@[simp] theorem State.holdFrame_lineReplies (f : Frame) : (s.holdFrame f).lineReplies = s.lineReplies := rfl
@[simp] theorem State.holdFrame_busReplies (f : Frame) : (s.holdFrame f).busReplies = s.busReplies := rfl
@[simp] theorem State.holdFrame_initiatorReplies (f : Frame) : (s.holdFrame f).initiatorReplies = s.initiatorReplies := rfl
@[simp] theorem State.holdFrame_lineDraws (f : Frame) : (s.holdFrame f).lineDraws = s.lineDraws := rfl
@[simp] theorem State.holdFrame_busDraws (f : Frame) : (s.holdFrame f).busDraws = s.busDraws := rfl
@[simp] theorem State.holdFrame_initiatorDraws (f : Frame) : (s.holdFrame f).initiatorDraws = s.initiatorDraws := rfl

/-! ### `State.holdBusAnswer` -/

@[simp] theorem State.holdBusAnswer_active (a : BusAnswer) : (s.holdBusAnswer a).active = s.active := rfl
@[simp] theorem State.holdBusAnswer_seq (a : BusAnswer) : (s.holdBusAnswer a).seq = s.seq := rfl
@[simp] theorem State.holdBusAnswer_opCh (a : BusAnswer) : (s.holdBusAnswer a).opCh = s.opCh := rfl
@[simp] theorem State.holdBusAnswer_opVal (a : BusAnswer) : (s.holdBusAnswer a).opVal = s.opVal := rfl
@[simp] theorem State.holdBusAnswer_opIdx (a : BusAnswer) : (s.holdBusAnswer a).opIdx = s.opIdx := rfl
@[simp] theorem State.holdBusAnswer_frame (a : BusAnswer) : (s.holdBusAnswer a).frame = s.frame := rfl
@[simp] theorem State.holdBusAnswer_busAnswer (a : BusAnswer) : (s.holdBusAnswer a).busAnswer = some a := rfl
@[simp] theorem State.holdBusAnswer_halted (a : BusAnswer) : (s.holdBusAnswer a).halted = s.halted := rfl
@[simp] theorem State.holdBusAnswer_lineEN (a : BusAnswer) : (s.holdBusAnswer a).lineEN = s.lineEN := rfl
@[simp] theorem State.holdBusAnswer_lineSEL (a : BusAnswer) : (s.holdBusAnswer a).lineSEL = s.lineSEL := rfl
@[simp] theorem State.holdBusAnswer_lineRST (a : BusAnswer) : (s.holdBusAnswer a).lineRST = s.lineRST := rfl
@[simp] theorem State.holdBusAnswer_pending (a : BusAnswer) : (s.holdBusAnswer a).pending = s.pending := rfl
@[simp] theorem State.holdBusAnswer_trace (a : BusAnswer) : (s.holdBusAnswer a).trace = s.trace := rfl
@[simp] theorem State.holdBusAnswer_responses (a : BusAnswer) : (s.holdBusAnswer a).responses = s.responses := rfl
@[simp] theorem State.holdBusAnswer_verdicts (a : BusAnswer) : (s.holdBusAnswer a).verdicts = s.verdicts := rfl
@[simp] theorem State.holdBusAnswer_inputs (a : BusAnswer) : (s.holdBusAnswer a).inputs = s.inputs := rfl
@[simp] theorem State.holdBusAnswer_lineReplies (a : BusAnswer) : (s.holdBusAnswer a).lineReplies = s.lineReplies := rfl
@[simp] theorem State.holdBusAnswer_busReplies (a : BusAnswer) : (s.holdBusAnswer a).busReplies = s.busReplies := rfl
@[simp] theorem State.holdBusAnswer_initiatorReplies (a : BusAnswer) : (s.holdBusAnswer a).initiatorReplies = s.initiatorReplies := rfl
@[simp] theorem State.holdBusAnswer_lineDraws (a : BusAnswer) : (s.holdBusAnswer a).lineDraws = s.lineDraws := rfl
@[simp] theorem State.holdBusAnswer_busDraws (a : BusAnswer) : (s.holdBusAnswer a).busDraws = s.busDraws := rfl
@[simp] theorem State.holdBusAnswer_initiatorDraws (a : BusAnswer) : (s.holdBusAnswer a).initiatorDraws = s.initiatorDraws := rfl

/-! ### `State.handOver` -/

@[simp] theorem State.handOver_active (f : Frame) (a : InitiatorAnswer) : (s.handOver f a).active = s.active := by cases a <;> rfl
@[simp] theorem State.handOver_seq (f : Frame) (a : InitiatorAnswer) : (s.handOver f a).seq = s.seq := by cases a <;> rfl
@[simp] theorem State.handOver_opCh (f : Frame) (a : InitiatorAnswer) : (s.handOver f a).opCh = s.opCh := by cases a <;> rfl
@[simp] theorem State.handOver_opVal (f : Frame) (a : InitiatorAnswer) : (s.handOver f a).opVal = s.opVal := by cases a <;> rfl
@[simp] theorem State.handOver_opIdx (f : Frame) (a : InitiatorAnswer) : (s.handOver f a).opIdx = s.opIdx := by cases a <;> rfl
@[simp] theorem State.handOver_frame (f : Frame) (a : InitiatorAnswer) : (s.handOver f a).frame = s.frame := by cases a <;> rfl
@[simp] theorem State.handOver_busAnswer (f : Frame) (a : InitiatorAnswer) : (s.handOver f a).busAnswer = s.busAnswer := by cases a <;> rfl
@[simp] theorem State.handOver_halted (f : Frame) (a : InitiatorAnswer) : (s.handOver f a).halted = s.halted := by cases a <;> rfl
@[simp] theorem State.handOver_lineEN (f : Frame) (a : InitiatorAnswer) : (s.handOver f a).lineEN = s.lineEN := by cases a <;> rfl
@[simp] theorem State.handOver_lineSEL (f : Frame) (a : InitiatorAnswer) : (s.handOver f a).lineSEL = s.lineSEL := by cases a <;> rfl
@[simp] theorem State.handOver_lineRST (f : Frame) (a : InitiatorAnswer) : (s.handOver f a).lineRST = s.lineRST := by cases a <;> rfl
@[simp] theorem State.handOver_pending (f : Frame) (a : InitiatorAnswer) : (s.handOver f a).pending = if a = .deferred then s.pending ++ [f] else s.pending := by cases a <;> rfl
@[simp] theorem State.handOver_trace (f : Frame) (a : InitiatorAnswer) : (s.handOver f a).trace = s.trace := by cases a <;> rfl
@[simp] theorem State.handOver_responses (f : Frame) (a : InitiatorAnswer) : (s.handOver f a).responses = s.responses := by cases a <;> rfl
@[simp] theorem State.handOver_verdicts (f : Frame) (a : InitiatorAnswer) : (s.handOver f a).verdicts = s.verdicts := by cases a <;> rfl
@[simp] theorem State.handOver_inputs (f : Frame) (a : InitiatorAnswer) : (s.handOver f a).inputs = s.inputs := by cases a <;> rfl
@[simp] theorem State.handOver_lineReplies (f : Frame) (a : InitiatorAnswer) : (s.handOver f a).lineReplies = s.lineReplies := by cases a <;> rfl
@[simp] theorem State.handOver_busReplies (f : Frame) (a : InitiatorAnswer) : (s.handOver f a).busReplies = s.busReplies := by cases a <;> rfl
@[simp] theorem State.handOver_initiatorReplies (f : Frame) (a : InitiatorAnswer) : (s.handOver f a).initiatorReplies = s.initiatorReplies := by cases a <;> rfl
@[simp] theorem State.handOver_lineDraws (f : Frame) (a : InitiatorAnswer) : (s.handOver f a).lineDraws = s.lineDraws := by cases a <;> rfl
@[simp] theorem State.handOver_busDraws (f : Frame) (a : InitiatorAnswer) : (s.handOver f a).busDraws = s.busDraws := by cases a <;> rfl
@[simp] theorem State.handOver_initiatorDraws (f : Frame) (a : InitiatorAnswer) : (s.handOver f a).initiatorDraws = s.initiatorDraws := by cases a <;> rfl

/-! ### `State.release` -/

@[simp] theorem State.release_active : s.release.active = s.active := rfl
@[simp] theorem State.release_seq : s.release.seq = .idle := rfl
@[simp] theorem State.release_opCh : s.release.opCh = none := rfl
@[simp] theorem State.release_opVal : s.release.opVal = none := rfl
@[simp] theorem State.release_opIdx : s.release.opIdx = none := rfl
@[simp] theorem State.release_frame : s.release.frame = none := rfl
@[simp] theorem State.release_busAnswer : s.release.busAnswer = none := rfl
@[simp] theorem State.release_halted : s.release.halted = s.halted := rfl
@[simp] theorem State.release_lineEN : s.release.lineEN = s.lineEN := rfl
@[simp] theorem State.release_lineSEL : s.release.lineSEL = s.lineSEL := rfl
@[simp] theorem State.release_lineRST : s.release.lineRST = s.lineRST := rfl
@[simp] theorem State.release_pending : s.release.pending = s.pending := rfl
@[simp] theorem State.release_trace : s.release.trace = s.trace := rfl
@[simp] theorem State.release_responses : s.release.responses = s.responses := rfl
@[simp] theorem State.release_verdicts : s.release.verdicts = s.verdicts := rfl
@[simp] theorem State.release_inputs : s.release.inputs = s.inputs := rfl
@[simp] theorem State.release_lineReplies : s.release.lineReplies = s.lineReplies := rfl
@[simp] theorem State.release_busReplies : s.release.busReplies = s.busReplies := rfl
@[simp] theorem State.release_initiatorReplies : s.release.initiatorReplies = s.initiatorReplies := rfl
@[simp] theorem State.release_lineDraws : s.release.lineDraws = s.lineDraws := rfl
@[simp] theorem State.release_busDraws : s.release.busDraws = s.busDraws := rfl
@[simp] theorem State.release_initiatorDraws : s.release.initiatorDraws = s.initiatorDraws := rfl

/-! ### `State.respond` -/

@[simp] theorem State.respond_active (r : Response) : (s.respond r).active = s.active := rfl
@[simp] theorem State.respond_seq (r : Response) : (s.respond r).seq = .idle := rfl
@[simp] theorem State.respond_opCh (r : Response) : (s.respond r).opCh = none := rfl
@[simp] theorem State.respond_opVal (r : Response) : (s.respond r).opVal = none := rfl
@[simp] theorem State.respond_opIdx (r : Response) : (s.respond r).opIdx = none := rfl
@[simp] theorem State.respond_frame (r : Response) : (s.respond r).frame = none := rfl
@[simp] theorem State.respond_busAnswer (r : Response) : (s.respond r).busAnswer = none := rfl
@[simp] theorem State.respond_halted (r : Response) : (s.respond r).halted = s.halted := rfl
@[simp] theorem State.respond_lineEN (r : Response) : (s.respond r).lineEN = s.lineEN := rfl
@[simp] theorem State.respond_lineSEL (r : Response) : (s.respond r).lineSEL = s.lineSEL := rfl
@[simp] theorem State.respond_lineRST (r : Response) : (s.respond r).lineRST = s.lineRST := rfl
@[simp] theorem State.respond_pending (r : Response) : (s.respond r).pending = s.pending := rfl
@[simp] theorem State.respond_trace (r : Response) : (s.respond r).trace = s.trace := rfl
@[simp] theorem State.respond_responses (r : Response) : (s.respond r).responses = s.responses ++ [r] := rfl
@[simp] theorem State.respond_verdicts (r : Response) : (s.respond r).verdicts = s.verdicts := rfl
@[simp] theorem State.respond_inputs (r : Response) : (s.respond r).inputs = s.inputs := rfl
@[simp] theorem State.respond_lineReplies (r : Response) : (s.respond r).lineReplies = s.lineReplies := rfl
@[simp] theorem State.respond_busReplies (r : Response) : (s.respond r).busReplies = s.busReplies := rfl
@[simp] theorem State.respond_initiatorReplies (r : Response) : (s.respond r).initiatorReplies = s.initiatorReplies := rfl
@[simp] theorem State.respond_lineDraws (r : Response) : (s.respond r).lineDraws = s.lineDraws := rfl
@[simp] theorem State.respond_busDraws (r : Response) : (s.respond r).busDraws = s.busDraws := rfl
@[simp] theorem State.respond_initiatorDraws (r : Response) : (s.respond r).initiatorDraws = s.initiatorDraws := rfl

/-! ### `State.setLine` -/

@[simp] theorem State.setLine_active (l : Line) (x : Level) : (s.setLine l x).active = s.active := by cases l <;> rfl
@[simp] theorem State.setLine_seq (l : Line) (x : Level) : (s.setLine l x).seq = s.seq := by cases l <;> rfl
@[simp] theorem State.setLine_opCh (l : Line) (x : Level) : (s.setLine l x).opCh = s.opCh := by cases l <;> rfl
@[simp] theorem State.setLine_opVal (l : Line) (x : Level) : (s.setLine l x).opVal = s.opVal := by cases l <;> rfl
@[simp] theorem State.setLine_opIdx (l : Line) (x : Level) : (s.setLine l x).opIdx = s.opIdx := by cases l <;> rfl
@[simp] theorem State.setLine_frame (l : Line) (x : Level) : (s.setLine l x).frame = s.frame := by cases l <;> rfl
@[simp] theorem State.setLine_busAnswer (l : Line) (x : Level) : (s.setLine l x).busAnswer = s.busAnswer := by cases l <;> rfl
@[simp] theorem State.setLine_halted (l : Line) (x : Level) : (s.setLine l x).halted = s.halted := by cases l <;> rfl
@[simp] theorem State.setLine_pending (l : Line) (x : Level) : (s.setLine l x).pending = s.pending := by cases l <;> rfl
@[simp] theorem State.setLine_trace (l : Line) (x : Level) : (s.setLine l x).trace = s.trace := by cases l <;> rfl
@[simp] theorem State.setLine_responses (l : Line) (x : Level) : (s.setLine l x).responses = s.responses := by cases l <;> rfl
@[simp] theorem State.setLine_verdicts (l : Line) (x : Level) : (s.setLine l x).verdicts = s.verdicts := by cases l <;> rfl
@[simp] theorem State.setLine_inputs (l : Line) (x : Level) : (s.setLine l x).inputs = s.inputs := by cases l <;> rfl
@[simp] theorem State.setLine_lineReplies (l : Line) (x : Level) : (s.setLine l x).lineReplies = s.lineReplies := by cases l <;> rfl
@[simp] theorem State.setLine_busReplies (l : Line) (x : Level) : (s.setLine l x).busReplies = s.busReplies := by cases l <;> rfl
@[simp] theorem State.setLine_initiatorReplies (l : Line) (x : Level) : (s.setLine l x).initiatorReplies = s.initiatorReplies := by cases l <;> rfl
@[simp] theorem State.setLine_lineDraws (l : Line) (x : Level) : (s.setLine l x).lineDraws = s.lineDraws := by cases l <;> rfl
@[simp] theorem State.setLine_busDraws (l : Line) (x : Level) : (s.setLine l x).busDraws = s.busDraws := by cases l <;> rfl
@[simp] theorem State.setLine_initiatorDraws (l : Line) (x : Level) : (s.setLine l x).initiatorDraws = s.initiatorDraws := by cases l <;> rfl
@[simp] theorem State.setLine_EN_lineEN (x : Level) : (s.setLine .EN x).lineEN = levelLatch x := rfl
@[simp] theorem State.setLine_SEL_lineEN (x : Level) : (s.setLine .SEL x).lineEN = s.lineEN := rfl
@[simp] theorem State.setLine_RST_lineEN (x : Level) : (s.setLine .RST x).lineEN = s.lineEN := rfl
@[simp] theorem State.setLine_EN_lineSEL (x : Level) : (s.setLine .EN x).lineSEL = s.lineSEL := rfl
@[simp] theorem State.setLine_SEL_lineSEL (x : Level) : (s.setLine .SEL x).lineSEL = levelLatch x := rfl
@[simp] theorem State.setLine_RST_lineSEL (x : Level) : (s.setLine .RST x).lineSEL = s.lineSEL := rfl
@[simp] theorem State.setLine_EN_lineRST (x : Level) : (s.setLine .EN x).lineRST = s.lineRST := rfl
@[simp] theorem State.setLine_SEL_lineRST (x : Level) : (s.setLine .SEL x).lineRST = s.lineRST := rfl
@[simp] theorem State.setLine_RST_lineRST (x : Level) : (s.setLine .RST x).lineRST = levelLatch x := rfl

/-! ### `State.lineAsked` -/

@[simp] theorem State.lineAsked_active : s.lineAsked.active = s.active := by unfold State.lineAsked; split <;> simp_all
@[simp] theorem State.lineAsked_seq : s.lineAsked.seq = s.seq := by unfold State.lineAsked; split <;> simp_all
@[simp] theorem State.lineAsked_opCh : s.lineAsked.opCh = s.opCh := by unfold State.lineAsked; split <;> simp_all
@[simp] theorem State.lineAsked_opVal : s.lineAsked.opVal = s.opVal := by unfold State.lineAsked; split <;> simp_all
@[simp] theorem State.lineAsked_opIdx : s.lineAsked.opIdx = s.opIdx := by unfold State.lineAsked; split <;> simp_all
@[simp] theorem State.lineAsked_frame : s.lineAsked.frame = s.frame := by unfold State.lineAsked; split <;> simp_all
@[simp] theorem State.lineAsked_busAnswer : s.lineAsked.busAnswer = s.busAnswer := by unfold State.lineAsked; split <;> simp_all
@[simp] theorem State.lineAsked_halted : s.lineAsked.halted = s.halted := by unfold State.lineAsked; split <;> simp_all
@[simp] theorem State.lineAsked_lineEN : s.lineAsked.lineEN = s.lineEN := by unfold State.lineAsked; split <;> simp_all
@[simp] theorem State.lineAsked_lineSEL : s.lineAsked.lineSEL = s.lineSEL := by unfold State.lineAsked; split <;> simp_all
@[simp] theorem State.lineAsked_lineRST : s.lineAsked.lineRST = s.lineRST := by unfold State.lineAsked; split <;> simp_all
@[simp] theorem State.lineAsked_pending : s.lineAsked.pending = s.pending := by unfold State.lineAsked; split <;> simp_all
@[simp] theorem State.lineAsked_trace : s.lineAsked.trace = s.trace := by unfold State.lineAsked; split <;> simp_all
@[simp] theorem State.lineAsked_responses : s.lineAsked.responses = s.responses := by unfold State.lineAsked; split <;> simp_all
@[simp] theorem State.lineAsked_verdicts : s.lineAsked.verdicts = s.verdicts := by unfold State.lineAsked; split <;> simp_all
@[simp] theorem State.lineAsked_inputs : s.lineAsked.inputs = s.inputs := by unfold State.lineAsked; split <;> simp_all
@[simp] theorem State.lineAsked_lineReplies : s.lineAsked.lineReplies = s.lineReplies.tail := by unfold State.lineAsked; split <;> simp_all
@[simp] theorem State.lineAsked_busReplies : s.lineAsked.busReplies = s.busReplies := by unfold State.lineAsked; split <;> simp_all
@[simp] theorem State.lineAsked_initiatorReplies : s.lineAsked.initiatorReplies = s.initiatorReplies := by unfold State.lineAsked; split <;> simp_all
@[simp] theorem State.lineAsked_busDraws : s.lineAsked.busDraws = s.busDraws := by unfold State.lineAsked; split <;> simp_all
@[simp] theorem State.lineAsked_initiatorDraws : s.lineAsked.initiatorDraws = s.initiatorDraws := by unfold State.lineAsked; split <;> simp_all

/-! ### `State.busAsked` -/

@[simp] theorem State.busAsked_active : s.busAsked.active = s.active := by unfold State.busAsked; split <;> simp_all
@[simp] theorem State.busAsked_seq : s.busAsked.seq = s.seq := by unfold State.busAsked; split <;> simp_all
@[simp] theorem State.busAsked_opCh : s.busAsked.opCh = s.opCh := by unfold State.busAsked; split <;> simp_all
@[simp] theorem State.busAsked_opVal : s.busAsked.opVal = s.opVal := by unfold State.busAsked; split <;> simp_all
@[simp] theorem State.busAsked_opIdx : s.busAsked.opIdx = s.opIdx := by unfold State.busAsked; split <;> simp_all
@[simp] theorem State.busAsked_frame : s.busAsked.frame = s.frame := by unfold State.busAsked; split <;> simp_all
@[simp] theorem State.busAsked_busAnswer : s.busAsked.busAnswer = s.busAnswer := by unfold State.busAsked; split <;> simp_all
@[simp] theorem State.busAsked_halted : s.busAsked.halted = s.halted := by unfold State.busAsked; split <;> simp_all
@[simp] theorem State.busAsked_lineEN : s.busAsked.lineEN = s.lineEN := by unfold State.busAsked; split <;> simp_all
@[simp] theorem State.busAsked_lineSEL : s.busAsked.lineSEL = s.lineSEL := by unfold State.busAsked; split <;> simp_all
@[simp] theorem State.busAsked_lineRST : s.busAsked.lineRST = s.lineRST := by unfold State.busAsked; split <;> simp_all
@[simp] theorem State.busAsked_pending : s.busAsked.pending = s.pending := by unfold State.busAsked; split <;> simp_all
@[simp] theorem State.busAsked_trace : s.busAsked.trace = s.trace := by unfold State.busAsked; split <;> simp_all
@[simp] theorem State.busAsked_responses : s.busAsked.responses = s.responses := by unfold State.busAsked; split <;> simp_all
@[simp] theorem State.busAsked_verdicts : s.busAsked.verdicts = s.verdicts := by unfold State.busAsked; split <;> simp_all
@[simp] theorem State.busAsked_inputs : s.busAsked.inputs = s.inputs := by unfold State.busAsked; split <;> simp_all
@[simp] theorem State.busAsked_lineReplies : s.busAsked.lineReplies = s.lineReplies := by unfold State.busAsked; split <;> simp_all
@[simp] theorem State.busAsked_busReplies : s.busAsked.busReplies = s.busReplies.tail := by unfold State.busAsked; split <;> simp_all
@[simp] theorem State.busAsked_initiatorReplies : s.busAsked.initiatorReplies = s.initiatorReplies := by unfold State.busAsked; split <;> simp_all
@[simp] theorem State.busAsked_lineDraws : s.busAsked.lineDraws = s.lineDraws := by unfold State.busAsked; split <;> simp_all
@[simp] theorem State.busAsked_busDraws : s.busAsked.busDraws = if s.busReplies = [] then s.busDraws + 1 else s.busDraws := by unfold State.busAsked; split <;> simp_all
@[simp] theorem State.busAsked_initiatorDraws : s.busAsked.initiatorDraws = s.initiatorDraws := by unfold State.busAsked; split <;> simp_all

/-! ### `State.initiatorAsked` -/

@[simp] theorem State.initiatorAsked_active : s.initiatorAsked.active = s.active := by unfold State.initiatorAsked; split <;> simp_all
@[simp] theorem State.initiatorAsked_seq : s.initiatorAsked.seq = s.seq := by unfold State.initiatorAsked; split <;> simp_all
@[simp] theorem State.initiatorAsked_opCh : s.initiatorAsked.opCh = s.opCh := by unfold State.initiatorAsked; split <;> simp_all
@[simp] theorem State.initiatorAsked_opVal : s.initiatorAsked.opVal = s.opVal := by unfold State.initiatorAsked; split <;> simp_all
@[simp] theorem State.initiatorAsked_opIdx : s.initiatorAsked.opIdx = s.opIdx := by unfold State.initiatorAsked; split <;> simp_all
@[simp] theorem State.initiatorAsked_frame : s.initiatorAsked.frame = s.frame := by unfold State.initiatorAsked; split <;> simp_all
@[simp] theorem State.initiatorAsked_busAnswer : s.initiatorAsked.busAnswer = s.busAnswer := by unfold State.initiatorAsked; split <;> simp_all
@[simp] theorem State.initiatorAsked_halted : s.initiatorAsked.halted = s.halted := by unfold State.initiatorAsked; split <;> simp_all
@[simp] theorem State.initiatorAsked_lineEN : s.initiatorAsked.lineEN = s.lineEN := by unfold State.initiatorAsked; split <;> simp_all
@[simp] theorem State.initiatorAsked_lineSEL : s.initiatorAsked.lineSEL = s.lineSEL := by unfold State.initiatorAsked; split <;> simp_all
@[simp] theorem State.initiatorAsked_lineRST : s.initiatorAsked.lineRST = s.lineRST := by unfold State.initiatorAsked; split <;> simp_all
@[simp] theorem State.initiatorAsked_pending : s.initiatorAsked.pending = s.pending := by unfold State.initiatorAsked; split <;> simp_all
@[simp] theorem State.initiatorAsked_trace : s.initiatorAsked.trace = s.trace := by unfold State.initiatorAsked; split <;> simp_all
@[simp] theorem State.initiatorAsked_responses : s.initiatorAsked.responses = s.responses := by unfold State.initiatorAsked; split <;> simp_all
@[simp] theorem State.initiatorAsked_verdicts : s.initiatorAsked.verdicts = s.verdicts := by unfold State.initiatorAsked; split <;> simp_all
@[simp] theorem State.initiatorAsked_inputs : s.initiatorAsked.inputs = s.inputs := by unfold State.initiatorAsked; split <;> simp_all
@[simp] theorem State.initiatorAsked_lineReplies : s.initiatorAsked.lineReplies = s.lineReplies := by unfold State.initiatorAsked; split <;> simp_all
@[simp] theorem State.initiatorAsked_busReplies : s.initiatorAsked.busReplies = s.busReplies := by unfold State.initiatorAsked; split <;> simp_all
@[simp] theorem State.initiatorAsked_initiatorReplies : s.initiatorAsked.initiatorReplies = s.initiatorReplies.tail := by unfold State.initiatorAsked; split <;> simp_all
@[simp] theorem State.initiatorAsked_lineDraws : s.initiatorAsked.lineDraws = s.lineDraws := by unfold State.initiatorAsked; split <;> simp_all
@[simp] theorem State.initiatorAsked_busDraws : s.initiatorAsked.busDraws = s.busDraws := by unfold State.initiatorAsked; split <;> simp_all
@[simp] theorem State.initiatorAsked_initiatorDraws : s.initiatorAsked.initiatorDraws = if s.initiatorReplies = [] then s.initiatorDraws + 1 else s.initiatorDraws := by unfold State.initiatorAsked; split <;> simp_all

/-! ### `State.construct` -/

@[simp] theorem State.construct_active : s.construct.active = false := rfl
@[simp] theorem State.construct_seq : s.construct.seq = .idle := rfl
@[simp] theorem State.construct_opCh : s.construct.opCh = none := rfl
@[simp] theorem State.construct_opVal : s.construct.opVal = none := rfl
@[simp] theorem State.construct_opIdx : s.construct.opIdx = none := rfl
@[simp] theorem State.construct_frame : s.construct.frame = none := rfl
@[simp] theorem State.construct_busAnswer : s.construct.busAnswer = none := rfl
@[simp] theorem State.construct_halted : s.construct.halted = false := rfl
@[simp] theorem State.construct_lineEN : s.construct.lineEN = s.lineEN := rfl
@[simp] theorem State.construct_lineSEL : s.construct.lineSEL = s.lineSEL := rfl
@[simp] theorem State.construct_lineRST : s.construct.lineRST = s.lineRST := rfl
@[simp] theorem State.construct_pending : s.construct.pending = [] := rfl
@[simp] theorem State.construct_trace : s.construct.trace = s.trace := rfl
@[simp] theorem State.construct_responses : s.construct.responses = s.responses := rfl
@[simp] theorem State.construct_verdicts : s.construct.verdicts = s.verdicts := rfl
@[simp] theorem State.construct_inputs : s.construct.inputs = s.inputs := rfl
@[simp] theorem State.construct_lineReplies : s.construct.lineReplies = s.lineReplies := rfl
@[simp] theorem State.construct_busReplies : s.construct.busReplies = s.busReplies := rfl
@[simp] theorem State.construct_initiatorReplies : s.construct.initiatorReplies = s.initiatorReplies := rfl
@[simp] theorem State.construct_lineDraws : s.construct.lineDraws = s.lineDraws := rfl
@[simp] theorem State.construct_busDraws : s.construct.busDraws = s.busDraws := rfl
@[simp] theorem State.construct_initiatorDraws : s.construct.initiatorDraws = s.initiatorDraws := rfl

/-! ### `State.takeInput` -/

@[simp] theorem State.takeInput_active : s.takeInput.active = s.active := rfl
@[simp] theorem State.takeInput_seq : s.takeInput.seq = s.seq := rfl
@[simp] theorem State.takeInput_opCh : s.takeInput.opCh = s.opCh := rfl
@[simp] theorem State.takeInput_opVal : s.takeInput.opVal = s.opVal := rfl
@[simp] theorem State.takeInput_opIdx : s.takeInput.opIdx = s.opIdx := rfl
@[simp] theorem State.takeInput_frame : s.takeInput.frame = s.frame := rfl
@[simp] theorem State.takeInput_busAnswer : s.takeInput.busAnswer = s.busAnswer := rfl
@[simp] theorem State.takeInput_halted : s.takeInput.halted = s.halted := rfl
@[simp] theorem State.takeInput_lineEN : s.takeInput.lineEN = s.lineEN := rfl
@[simp] theorem State.takeInput_lineSEL : s.takeInput.lineSEL = s.lineSEL := rfl
@[simp] theorem State.takeInput_lineRST : s.takeInput.lineRST = s.lineRST := rfl
@[simp] theorem State.takeInput_pending : s.takeInput.pending = s.pending := rfl
@[simp] theorem State.takeInput_trace : s.takeInput.trace = s.trace := rfl
@[simp] theorem State.takeInput_responses : s.takeInput.responses = s.responses := rfl
@[simp] theorem State.takeInput_verdicts : s.takeInput.verdicts = s.verdicts := rfl
@[simp] theorem State.takeInput_inputs : s.takeInput.inputs = s.inputs.tail := rfl
@[simp] theorem State.takeInput_lineReplies : s.takeInput.lineReplies = s.lineReplies := rfl
@[simp] theorem State.takeInput_busReplies : s.takeInput.busReplies = s.busReplies := rfl
@[simp] theorem State.takeInput_initiatorReplies : s.takeInput.initiatorReplies = s.initiatorReplies := rfl
@[simp] theorem State.takeInput_lineDraws : s.takeInput.lineDraws = s.lineDraws := rfl
@[simp] theorem State.takeInput_busDraws : s.takeInput.busDraws = s.busDraws := rfl
@[simp] theorem State.takeInput_initiatorDraws : s.takeInput.initiatorDraws = s.initiatorDraws := rfl

/-! ### `State.noteFrame` -/

@[simp] theorem State.noteFrame_active (x : Option (Channel × Value)) : (s.noteFrame x).active = s.active := rfl
@[simp] theorem State.noteFrame_seq (x : Option (Channel × Value)) : (s.noteFrame x).seq = s.seq := rfl
@[simp] theorem State.noteFrame_opCh (x : Option (Channel × Value)) : (s.noteFrame x).opCh = s.opCh := rfl
@[simp] theorem State.noteFrame_opVal (x : Option (Channel × Value)) : (s.noteFrame x).opVal = s.opVal := rfl
@[simp] theorem State.noteFrame_opIdx (x : Option (Channel × Value)) : (s.noteFrame x).opIdx = s.opIdx := rfl
@[simp] theorem State.noteFrame_frame (x : Option (Channel × Value)) : (s.noteFrame x).frame = s.frame := rfl
@[simp] theorem State.noteFrame_busAnswer (x : Option (Channel × Value)) : (s.noteFrame x).busAnswer = s.busAnswer := rfl
@[simp] theorem State.noteFrame_halted (x : Option (Channel × Value)) : (s.noteFrame x).halted = s.halted := rfl
@[simp] theorem State.noteFrame_lineEN (x : Option (Channel × Value)) : (s.noteFrame x).lineEN = s.lineEN := rfl
@[simp] theorem State.noteFrame_lineSEL (x : Option (Channel × Value)) : (s.noteFrame x).lineSEL = s.lineSEL := rfl
@[simp] theorem State.noteFrame_lineRST (x : Option (Channel × Value)) : (s.noteFrame x).lineRST = s.lineRST := rfl
@[simp] theorem State.noteFrame_pending (x : Option (Channel × Value)) : (s.noteFrame x).pending = s.pending := rfl
@[simp] theorem State.noteFrame_trace (x : Option (Channel × Value)) : (s.noteFrame x).trace = s.trace := rfl
@[simp] theorem State.noteFrame_responses (x : Option (Channel × Value)) : (s.noteFrame x).responses = s.responses := rfl
@[simp] theorem State.noteFrame_verdicts (x : Option (Channel × Value)) : (s.noteFrame x).verdicts = s.verdicts ++ [x] := rfl
@[simp] theorem State.noteFrame_inputs (x : Option (Channel × Value)) : (s.noteFrame x).inputs = s.inputs := rfl
@[simp] theorem State.noteFrame_lineReplies (x : Option (Channel × Value)) : (s.noteFrame x).lineReplies = s.lineReplies := rfl
@[simp] theorem State.noteFrame_busReplies (x : Option (Channel × Value)) : (s.noteFrame x).busReplies = s.busReplies := rfl
@[simp] theorem State.noteFrame_initiatorReplies (x : Option (Channel × Value)) : (s.noteFrame x).initiatorReplies = s.initiatorReplies := rfl
@[simp] theorem State.noteFrame_lineDraws (x : Option (Channel × Value)) : (s.noteFrame x).lineDraws = s.lineDraws := rfl
@[simp] theorem State.noteFrame_busDraws (x : Option (Channel × Value)) : (s.noteFrame x).busDraws = s.busDraws := rfl
@[simp] theorem State.noteFrame_initiatorDraws (x : Option (Channel × Value)) : (s.noteFrame x).initiatorDraws = s.initiatorDraws := rfl

/-! ### `State.frameOut` -/

@[simp] theorem State.frameOut_active (f : Frame) : (s.frameOut f).active = s.active := rfl
@[simp] theorem State.frameOut_seq (f : Frame) : (s.frameOut f).seq = s.seq := rfl
@[simp] theorem State.frameOut_opCh (f : Frame) : (s.frameOut f).opCh = s.opCh := rfl
@[simp] theorem State.frameOut_opVal (f : Frame) : (s.frameOut f).opVal = s.opVal := rfl
@[simp] theorem State.frameOut_opIdx (f : Frame) : (s.frameOut f).opIdx = s.opIdx := rfl
@[simp] theorem State.frameOut_frame (f : Frame) : (s.frameOut f).frame = s.frame := rfl
@[simp] theorem State.frameOut_busAnswer (f : Frame) : (s.frameOut f).busAnswer = s.busAnswer := rfl
@[simp] theorem State.frameOut_halted (f : Frame) : (s.frameOut f).halted = s.halted := rfl
@[simp] theorem State.frameOut_lineEN (f : Frame) : (s.frameOut f).lineEN = s.lineEN := rfl
@[simp] theorem State.frameOut_lineSEL (f : Frame) : (s.frameOut f).lineSEL = s.lineSEL := rfl
@[simp] theorem State.frameOut_lineRST (f : Frame) : (s.frameOut f).lineRST = s.lineRST := rfl
@[simp] theorem State.frameOut_pending (f : Frame) : (s.frameOut f).pending = s.pending.erase f := rfl
@[simp] theorem State.frameOut_trace (f : Frame) : (s.frameOut f).trace = s.trace := rfl
@[simp] theorem State.frameOut_responses (f : Frame) : (s.frameOut f).responses = s.responses := rfl
@[simp] theorem State.frameOut_verdicts (f : Frame) : (s.frameOut f).verdicts = s.verdicts := rfl
@[simp] theorem State.frameOut_inputs (f : Frame) : (s.frameOut f).inputs = s.inputs := rfl
@[simp] theorem State.frameOut_lineReplies (f : Frame) : (s.frameOut f).lineReplies = s.lineReplies := rfl
@[simp] theorem State.frameOut_busReplies (f : Frame) : (s.frameOut f).busReplies = s.busReplies := rfl
@[simp] theorem State.frameOut_initiatorReplies (f : Frame) : (s.frameOut f).initiatorReplies = s.initiatorReplies := rfl
@[simp] theorem State.frameOut_lineDraws (f : Frame) : (s.frameOut f).lineDraws = s.lineDraws := rfl
@[simp] theorem State.frameOut_busDraws (f : Frame) : (s.frameOut f).busDraws = s.busDraws := rfl
@[simp] theorem State.frameOut_initiatorDraws (f : Frame) : (s.frameOut f).initiatorDraws = s.initiatorDraws := rfl

/-! ### The accessors -/

@[simp] theorem State.line_EN : s.line .EN = s.lineEN := rfl
@[simp] theorem State.line_SEL : s.line .SEL = s.lineSEL := rfl
@[simp] theorem State.line_RST : s.line .RST = s.lineRST := rfl

/-- Setting a line's latch and reading it back. -/
@[simp] theorem State.line_setLine_self (l : Line) (x : Level) : (s.setLine l x).line l = levelLatch x := by
  cases l <;> rfl

/-- Setting one line's latch leaves the others. -/
theorem State.line_setLine_other (l m : Line) (x : Level) (h : m ≠ l) :
    (s.setLine l x).line m = s.line m := by
  cases l <;> cases m <;> first | rfl | exact absurd rfl h

theorem State.finish_eq (ret : Word24) : s.finish ret = s.respond (.ok ret) := rfl
theorem State.raise_eq (e : Response) : s.raise e = s.respond e := rfl

@[simp] theorem andThen_next (f : State → Result) : andThen (.next s) f = f s := rfl
@[simp] theorem andThen_fault (r : Fault) (f : State → Result) : andThen (.fault r) f = .fault r := rfl
@[simp] theorem andThen_refused (r : Refusal) (f : State → Result) :
    andThen (.refused r) f = .refused r := rfl

/-- A chain gives a next state only through one. -/
theorem andThen_eq_next {o : Result} {f : State → Result} {t : State} :
    andThen o f = .next t ↔ ∃ u, o = .next u ∧ f u = .next t := by
  cases o <;> simp

end Sys2Proof.Machine
end

