-- ==== Sys2Proof/Laws/Ops.lean ====
section
/-!
SUPPORT. One specification lemma per shared operation: what a drive, a bus write, a call of the
initiator and the tests in front of an operation can do. Proofs cite these and unfold none of them.
-/

namespace Sys2Proof.Machine

/-! ### Replies -/

theorem State.lineReply_of_cons {s : State} {r : Reply LineAnswer} {rest : List (Reply LineAnswer)}
    (h : s.lineReplies = r :: rest) : s.lineReply = r := by simp [State.lineReply, h]

theorem State.busReply_of_cons {s : State} {r : Reply BusAnswer} {rest : List (Reply BusAnswer)}
    (h : s.busReplies = r :: rest) : s.busReply = r := by simp [State.busReply, h]

theorem State.initiatorReply_of_cons {s : State} {r : Reply InitiatorAnswer}
    {rest : List (Reply InitiatorAnswer)} (h : s.initiatorReplies = r :: rest) :
    s.initiatorReply = r := by simp [State.initiatorReply, h]

theorem reply_ne_never {α : Type} {r : Reply α} : r ≠ .never ↔ ∃ a, r = .answer a := by
  cases r <;> simp

/-! ### Collaborators that return -/

/-- The premise speaks of the line replies only. -/
theorem State.linesReturn_congr {n : Nat} {s t : State} (h : t.lineReplies = s.lineReplies) :
    t.LinesReturn n ↔ s.LinesReturn n := by simp [State.LinesReturn, h]

theorem State.linesReturn_answer {n : Nat} {s : State} (h : s.LinesReturn (n + 1)) :
    ∃ a, s.lineReply = .answer a := by
  unfold State.lineReply
  cases hr : s.lineReplies with
  | nil => exact ⟨_, rfl⟩
  | cons r rest => exact reply_ne_never.1 (h r (by simp [hr]))

theorem State.linesReturn_asked {n : Nat} {s : State} (h : s.LinesReturn (n + 1)) :
    s.lineAsked.LinesReturn n := by
  intro r hr
  refine h r ?_
  cases hs : s.lineReplies with
  | nil => simp [hs] at hr
  | cons a rest => simp [hs] at hr; simp [hr]

/-- The next drives return when the first does and those after it do. -/
theorem State.linesReturn_succ {n : Nat} {s : State} :
    s.LinesReturn (n + 1) ↔ s.lineReply ≠ .never ∧ s.lineAsked.LinesReturn n := by
  constructor
  · intro h
    obtain ⟨a, ha⟩ := State.linesReturn_answer h
    exact ⟨by simp [ha], State.linesReturn_asked h⟩
  · rintro ⟨h1, h2⟩ r hr
    cases hs : s.lineReplies with
    | nil => simp [hs] at hr
    | cons a rest =>
      simp only [hs, List.take_succ_cons, List.mem_cons] at hr
      rcases hr with rfl | hr
      · rwa [State.lineReply_of_cons hs] at h1
      · exact h2 r (by simpa [hs] using hr)

theorem State.linesReturn_mono {m n : Nat} {s : State} (hmn : m ≤ n) (h : s.LinesReturn n) :
    s.LinesReturn m :=
  fun r hr => h r ((List.take_subset_take_left _ hmn) hr)

/-- A drive that meets a listed reply draws no free answer. -/
theorem State.lineAsked_of_cons {s : State} {r : Reply LineAnswer} {rest : List (Reply LineAnswer)}
    (h : s.lineReplies = r :: rest) : s.lineAsked = { s with lineReplies := rest } := by
  simp [State.lineAsked, h]

theorem State.linesObey_returns {n : Nat} {s : State} (h : s.LinesObey n) : s.LinesReturn n := by
  intro r hr
  rw [h] at hr
  simp [List.eq_of_mem_replicate hr]

theorem State.linesObey_answer {n : Nat} {s : State} (h : s.LinesObey (n + 1)) :
    s.lineReply = .answer .ok := by
  cases hr : s.lineReplies with
  | nil => simp [State.LinesObey, hr, List.replicate_succ] at h
  | cons r rest =>
    simp only [State.LinesObey, hr, List.take_succ_cons, List.replicate_succ, List.cons.injEq] at h
    simp [State.lineReply, hr, h.1]

theorem State.linesObey_asked {n : Nat} {s : State} (h : s.LinesObey (n + 1)) :
    s.lineAsked.LinesObey n := by
  cases hr : s.lineReplies with
  | nil => simp [State.LinesObey, hr, List.replicate_succ] at h
  | cons r rest =>
    simp only [State.LinesObey, hr, List.take_succ_cons, List.replicate_succ, List.cons.injEq] at h
    simp [State.LinesObey, hr, h.2]

/-! ### The steps -/

/-- What a drive that returns leaves. -/
def State.driven (s : State) (l : Line) (lvl : Level) (a : LineAnswer) (q : Seq) : State :=
  ((s.lineAsked.setLine l (drivenLevel lvl a)).emit (.line l lvl)).goto q

theorem State.drive_answer {s : State} {a : LineAnswer} (h : s.lineReply = .answer a) (l : Line)
    (lvl : Level) (q : Seq) : s.drive l lvl q = .next (s.driven l lvl a q) := by
  simp [State.drive, h, State.driven]

theorem State.drive_never {s : State} (h : s.lineReply = .never) (l : Line) (lvl : Level) (q : Seq) :
    s.drive l lvl q = .fault (.neverReturned .line) := by
  simp [State.drive, h]

/-- Everything a drive can do. -/
theorem State.drive_next {s t : State} {l : Line} {lvl : Level} {q : Seq} :
    s.drive l lvl q = .next t ↔ ∃ a, s.lineReply = .answer a ∧ t = s.driven l lvl a q := by
  cases h : s.lineReply with
  | never => simp [State.drive, h]
  | answer a => simp [State.drive, h, State.driven, eq_comm]

theorem State.buildFrame_some {p : Params} {s : State} {c : Channel} {v : Value}
    (hc : s.opCh = some c) (hv : s.opVal = some v) (q : Seq) :
    s.buildFrame p q = .next ((s.holdFrame (encodeFrame p c v)).goto q) := by
  simp [State.buildFrame, hc, hv]

/-- Everything the building of a frame can do. -/
theorem State.buildFrame_next {p : Params} {s t : State} {q : Seq} :
    s.buildFrame p q = .next t ↔ ∃ c v, s.opCh = some c ∧ s.opVal = some v ∧
      t = (s.holdFrame (encodeFrame p c v)).goto q := by
  cases hc : s.opCh <;> cases hv : s.opVal <;> simp [State.buildFrame, hc, hv, eq_comm]

/-- What a bus write that returns leaves. -/
def State.written (p : Params) (s : State) (f : Frame) (a : BusAnswer) : State :=
  ((s.busAsked.holdBusAnswer a).emit (.bus f)).goto
    (if a = BusAnswer.fail ∧ p.deassertOnBusError = false then .write7 else .write5)

theorem State.busWrite_answer {p : Params} {s : State} {f : Frame} {a : BusAnswer}
    (hf : s.frame = some f) (h : s.busReply = .answer a) :
    s.busWrite p = .next (s.written p f a) := by
  simp [State.busWrite, hf, h, State.written]

/-- Everything a bus write can do. -/
theorem State.busWrite_next {p : Params} {s t : State} :
    s.busWrite p = .next t ↔
      ∃ f a, s.frame = some f ∧ s.busReply = .answer a ∧ t = s.written p f a := by
  constructor
  · intro ht
    cases hf : s.frame with
    | none => simp [State.busWrite, hf] at ht
    | some f =>
      cases h : s.busReply with
      | never => simp [State.busWrite, hf, h] at ht
      | answer a =>
        rw [State.busWrite_answer hf h] at ht
        exact ⟨f, a, rfl, rfl, (Host.Outcome.next.inj ht).symm⟩
  · rintro ⟨f, a, hf, h, rfl⟩
    exact State.busWrite_answer hf h

/-- What a call of the initiator that returns leaves. -/
def State.initiated (s : State) (f : Frame) (a : InitiatorAnswer) (q : Seq) : State :=
  ((s.initiatorAsked.handOver f a).emit (.init f)).goto q

theorem State.initiate_answer {s : State} {f : Frame} {a : InitiatorAnswer}
    (hf : s.frame = some f) (h : s.initiatorReply = .answer a) (q : Seq) :
    s.initiate q = .next (s.initiated f a q) := by
  simp only [State.initiate, hf, h, State.initiated]

/-- Everything a call of the initiator can do. -/
theorem State.initiate_next {s t : State} {q : Seq} :
    s.initiate q = .next t ↔
      ∃ f a, s.frame = some f ∧ s.initiatorReply = .answer a ∧ t = s.initiated f a q := by
  constructor
  · intro ht
    cases hf : s.frame with
    | none => simp [State.initiate, hf] at ht
    | some f =>
      cases h : s.initiatorReply with
      | never => simp [State.initiate, hf, h] at ht
      | answer a =>
        rw [State.initiate_answer hf h] at ht
        exact ⟨f, a, rfl, rfl, (Host.Outcome.next.inj ht).symm⟩
  · rintro ⟨f, a, hf, h, rfl⟩
    exact State.initiate_answer hf h q

/-- Everything the report of a bus write can do. -/
theorem State.reportBus_next {s t : State} :
    s.reportBus = .next t ↔ ∃ a, s.busAnswer = some a ∧
      t = s.respond (if a = BusAnswer.ok then .ok 0#24 else .busWriteError) := by
  rcases h : s.busAnswer with _ | _ | _ <;>
    simp [State.reportBus, h, State.finish, State.raise, eq_comm]

theorem State.reportBus_some {s : State} {a : BusAnswer} (h : s.busAnswer = some a) :
    s.reportBus = .next (s.respond (if a = BusAnswer.ok then .ok 0#24 else .busWriteError)) :=
  State.reportBus_next.2 ⟨a, h, rfl⟩

/-! ### The tests in front of an operation -/

theorem State.whenReady_ready {s : State} (h : s.Ready) (body : Result) : s.whenReady body = body := by
  simp [State.whenReady, h.1, h.2.1]

theorem State.whenReady_busy {s : State} (h : s.seq ≠ .idle) (body : Result) :
    s.whenReady body = .refused .blockBusy := by simp [State.whenReady, h]

theorem State.whenReady_halted {s : State} (h : s.seq = .idle) (hh : s.halted = true) (body : Result) :
    s.whenReady body = .fault .haltedByInvalidIndex := by simp [State.whenReady, h, hh]

/-- An operation gives a next state only from an idle block that is not halted. -/
theorem State.whenReady_next {s t : State} {body : Result} :
    s.whenReady body = .next t ↔ s.seq = .idle ∧ s.halted = false ∧ body = .next t := by
  unfold State.whenReady
  by_cases h : s.seq = .idle <;> by_cases hh : s.halted = true <;> simp [h, hh]

theorem State.whenActive_inactive {s : State} (h : s.active = false) (body : Result) :
    s.whenActive body = .next (s.finish 0#24) := by simp [State.whenActive, h]

theorem State.whenActive_active {s : State} (h : s.active = true) (body : Result) :
    s.whenActive body = body := by simp [State.whenActive, h]

/-- What a response leaves of a state that holds no transient latch. -/
theorem State.respond_of_ready {s : State} (h : s.Ready) (r : Response) :
    s.respond r = { s with responses := s.responses ++ [r] } := by
  obtain ⟨h1, -, h2, h3, h4, h5, h6⟩ := h
  cases s
  simp_all [State.respond, State.release]

theorem State.respond_latchTransfer (s : State) (c : Channel) (v : Value) (r : Response) :
    (s.latchTransfer c v).respond r = s.respond r := rfl

theorem State.respond_latchIndex (s : State) (i : Nat) (r : Response) :
    (s.latchIndex i).respond r = s.respond r := rfl

/-! ### The run of an operation -/

@[simp] theorem State.runSteps_zero (p : Params) (s : State) : s.runSteps p 0 = .next s := rfl

theorem State.runSteps_succ (p : Params) (n : Nat) (s : State) :
    s.runSteps p (n + 1) = andThen (s.advance p) (State.runSteps p n) := rfl

/-- One step of a run that has a next state. -/
theorem State.runSteps_step {p : Params} {n : Nat} {s u : State} (h : s.advance p = .next u) :
    s.runSteps p (n + 1) = u.runSteps p n := by simp [State.runSteps_succ, h]

/-- An idle sequencer stays where it is. -/
theorem State.runSteps_idle {p : Params} {s : State} (h : s.seq = .idle) (n : Nat) :
    s.runSteps p n = .next s := by
  induction n with
  | zero => rfl
  | succ n ih => rw [State.runSteps_step (u := s) (by simp [State.advance, h]), ih]

/-- A relation that every step keeps, and that composes, holds between the ends of a run. -/
theorem State.runSteps_induct {p : Params} (R : State → State → Prop) (hrefl : ∀ s, R s s)
    (htrans : ∀ s t u, R s t → R t u → R s u)
    (hstep : ∀ s t, s.advance p = .next t → R s t) :
    ∀ (n : Nat) (s t : State), s.runSteps p n = .next t → R s t
  | 0, s, t, h => by simp only [runSteps_zero, Host.Outcome.next.injEq] at h; exact h ▸ hrefl s
  | n + 1, s, t, h => by
    obtain ⟨u, hu, ht⟩ := andThen_eq_next.1 h
    exact htrans _ _ _ (hstep s u hu) (runSteps_induct R hrefl htrans hstep n u t ht)

/-- A property that every step keeps holds at the end of a run. -/
theorem State.runSteps_keeps {p : Params} (P : State → Prop)
    (hstep : ∀ s t, P s → s.advance p = .next t → P t) (n : Nat) (s t : State) (hs : P s)
    (h : s.runSteps p n = .next t) : P t :=
  State.runSteps_induct (p := p) (fun a b => P a → P b) (fun _ => id) (fun _ _ _ f g => g ∘ f)
    (fun a b hab ha => hstep a b ha hab) n s t h hs

end Sys2Proof.Machine
end

