-- ==== Sys2Proof/Laws/Steps.lean ====
section
/-!
SUPPORT. The fields of what a drive, a bus write and a call of the initiator leave, and what one step
of the sequencer can do to the whole state.
-/

namespace Sys2Proof.Machine

variable (s : State)

/-! ### `State.driven` -/

@[simp] theorem State.driven_active (l : Line) (x : Level) (a : LineAnswer) (q : Seq) : (s.driven l x a q).active = s.active := by simp [State.driven]
@[simp] theorem State.driven_seq (l : Line) (x : Level) (a : LineAnswer) (q : Seq) : (s.driven l x a q).seq = q := by simp [State.driven]
@[simp] theorem State.driven_opCh (l : Line) (x : Level) (a : LineAnswer) (q : Seq) : (s.driven l x a q).opCh = s.opCh := by simp [State.driven]
@[simp] theorem State.driven_opVal (l : Line) (x : Level) (a : LineAnswer) (q : Seq) : (s.driven l x a q).opVal = s.opVal := by simp [State.driven]
@[simp] theorem State.driven_opIdx (l : Line) (x : Level) (a : LineAnswer) (q : Seq) : (s.driven l x a q).opIdx = s.opIdx := by simp [State.driven]
@[simp] theorem State.driven_frame (l : Line) (x : Level) (a : LineAnswer) (q : Seq) : (s.driven l x a q).frame = s.frame := by simp [State.driven]
@[simp] theorem State.driven_busAnswer (l : Line) (x : Level) (a : LineAnswer) (q : Seq) : (s.driven l x a q).busAnswer = s.busAnswer := by simp [State.driven]
@[simp] theorem State.driven_halted (l : Line) (x : Level) (a : LineAnswer) (q : Seq) : (s.driven l x a q).halted = s.halted := by simp [State.driven]
@[simp] theorem State.driven_pending (l : Line) (x : Level) (a : LineAnswer) (q : Seq) : (s.driven l x a q).pending = s.pending := by simp [State.driven]
@[simp] theorem State.driven_trace (l : Line) (x : Level) (a : LineAnswer) (q : Seq) : (s.driven l x a q).trace = s.trace ++ [.line l x] := by simp [State.driven]
@[simp] theorem State.driven_responses (l : Line) (x : Level) (a : LineAnswer) (q : Seq) : (s.driven l x a q).responses = s.responses := by simp [State.driven]
@[simp] theorem State.driven_verdicts (l : Line) (x : Level) (a : LineAnswer) (q : Seq) : (s.driven l x a q).verdicts = s.verdicts := by simp [State.driven]
@[simp] theorem State.driven_inputs (l : Line) (x : Level) (a : LineAnswer) (q : Seq) : (s.driven l x a q).inputs = s.inputs := by simp [State.driven]
@[simp] theorem State.driven_lineReplies (l : Line) (x : Level) (a : LineAnswer) (q : Seq) : (s.driven l x a q).lineReplies = s.lineReplies.tail := by simp [State.driven]
@[simp] theorem State.driven_busReplies (l : Line) (x : Level) (a : LineAnswer) (q : Seq) : (s.driven l x a q).busReplies = s.busReplies := by simp [State.driven]
@[simp] theorem State.driven_initiatorReplies (l : Line) (x : Level) (a : LineAnswer) (q : Seq) : (s.driven l x a q).initiatorReplies = s.initiatorReplies := by simp [State.driven]
@[simp] theorem State.driven_busDraws (l : Line) (x : Level) (a : LineAnswer) (q : Seq) : (s.driven l x a q).busDraws = s.busDraws := by simp [State.driven]
@[simp] theorem State.driven_initiatorDraws (l : Line) (x : Level) (a : LineAnswer) (q : Seq) : (s.driven l x a q).initiatorDraws = s.initiatorDraws := by simp [State.driven]

@[simp] theorem State.driven_EN_lineEN (x : Level) (a : LineAnswer) (q : Seq) : (s.driven .EN x a q).lineEN = levelLatch (drivenLevel x a) := by simp [State.driven]
@[simp] theorem State.driven_SEL_lineEN (x : Level) (a : LineAnswer) (q : Seq) : (s.driven .SEL x a q).lineEN = s.lineEN := by simp [State.driven]
@[simp] theorem State.driven_RST_lineEN (x : Level) (a : LineAnswer) (q : Seq) : (s.driven .RST x a q).lineEN = s.lineEN := by simp [State.driven]
@[simp] theorem State.driven_EN_lineSEL (x : Level) (a : LineAnswer) (q : Seq) : (s.driven .EN x a q).lineSEL = s.lineSEL := by simp [State.driven]
@[simp] theorem State.driven_SEL_lineSEL (x : Level) (a : LineAnswer) (q : Seq) : (s.driven .SEL x a q).lineSEL = levelLatch (drivenLevel x a) := by simp [State.driven]
@[simp] theorem State.driven_RST_lineSEL (x : Level) (a : LineAnswer) (q : Seq) : (s.driven .RST x a q).lineSEL = s.lineSEL := by simp [State.driven]
@[simp] theorem State.driven_EN_lineRST (x : Level) (a : LineAnswer) (q : Seq) : (s.driven .EN x a q).lineRST = s.lineRST := by simp [State.driven]
@[simp] theorem State.driven_SEL_lineRST (x : Level) (a : LineAnswer) (q : Seq) : (s.driven .SEL x a q).lineRST = s.lineRST := by simp [State.driven]
@[simp] theorem State.driven_RST_lineRST (x : Level) (a : LineAnswer) (q : Seq) : (s.driven .RST x a q).lineRST = levelLatch (drivenLevel x a) := by simp [State.driven]

/-! ### `State.written` -/

@[simp] theorem State.written_active (p : Params) (f : Frame) (a : BusAnswer) : (s.written p f a).active = s.active := by simp [State.written]
@[simp] theorem State.written_seq (p : Params) (f : Frame) (a : BusAnswer) : (s.written p f a).seq = if a = BusAnswer.fail ∧ p.deassertOnBusError = false then .write7 else .write5 := by simp [State.written]
@[simp] theorem State.written_opCh (p : Params) (f : Frame) (a : BusAnswer) : (s.written p f a).opCh = s.opCh := by simp [State.written]
@[simp] theorem State.written_opVal (p : Params) (f : Frame) (a : BusAnswer) : (s.written p f a).opVal = s.opVal := by simp [State.written]
@[simp] theorem State.written_opIdx (p : Params) (f : Frame) (a : BusAnswer) : (s.written p f a).opIdx = s.opIdx := by simp [State.written]
@[simp] theorem State.written_frame (p : Params) (f : Frame) (a : BusAnswer) : (s.written p f a).frame = s.frame := by simp [State.written]
@[simp] theorem State.written_busAnswer (p : Params) (f : Frame) (a : BusAnswer) : (s.written p f a).busAnswer = some a := by simp [State.written]
@[simp] theorem State.written_halted (p : Params) (f : Frame) (a : BusAnswer) : (s.written p f a).halted = s.halted := by simp [State.written]
@[simp] theorem State.written_lineEN (p : Params) (f : Frame) (a : BusAnswer) : (s.written p f a).lineEN = s.lineEN := by simp [State.written]
@[simp] theorem State.written_lineSEL (p : Params) (f : Frame) (a : BusAnswer) : (s.written p f a).lineSEL = s.lineSEL := by simp [State.written]
@[simp] theorem State.written_lineRST (p : Params) (f : Frame) (a : BusAnswer) : (s.written p f a).lineRST = s.lineRST := by simp [State.written]
@[simp] theorem State.written_pending (p : Params) (f : Frame) (a : BusAnswer) : (s.written p f a).pending = s.pending := by simp [State.written]
@[simp] theorem State.written_trace (p : Params) (f : Frame) (a : BusAnswer) : (s.written p f a).trace = s.trace ++ [.bus f] := by simp [State.written]
@[simp] theorem State.written_responses (p : Params) (f : Frame) (a : BusAnswer) : (s.written p f a).responses = s.responses := by simp [State.written]
@[simp] theorem State.written_verdicts (p : Params) (f : Frame) (a : BusAnswer) : (s.written p f a).verdicts = s.verdicts := by simp [State.written]
@[simp] theorem State.written_inputs (p : Params) (f : Frame) (a : BusAnswer) : (s.written p f a).inputs = s.inputs := by simp [State.written]
@[simp] theorem State.written_lineReplies (p : Params) (f : Frame) (a : BusAnswer) : (s.written p f a).lineReplies = s.lineReplies := by simp [State.written]
@[simp] theorem State.written_busReplies (p : Params) (f : Frame) (a : BusAnswer) : (s.written p f a).busReplies = s.busReplies.tail := by simp [State.written]
@[simp] theorem State.written_initiatorReplies (p : Params) (f : Frame) (a : BusAnswer) : (s.written p f a).initiatorReplies = s.initiatorReplies := by simp [State.written]
@[simp] theorem State.written_lineDraws (p : Params) (f : Frame) (a : BusAnswer) : (s.written p f a).lineDraws = s.lineDraws := by simp [State.written]
@[simp] theorem State.written_busDraws (p : Params) (f : Frame) (a : BusAnswer) : (s.written p f a).busDraws = if s.busReplies = [] then s.busDraws + 1 else s.busDraws := by simp [State.written]
@[simp] theorem State.written_initiatorDraws (p : Params) (f : Frame) (a : BusAnswer) : (s.written p f a).initiatorDraws = s.initiatorDraws := by simp [State.written]

/-! ### `State.initiated` -/

@[simp] theorem State.initiated_active (f : Frame) (a : InitiatorAnswer) (q : Seq) : (s.initiated f a q).active = s.active := by simp [State.initiated]
@[simp] theorem State.initiated_seq (f : Frame) (a : InitiatorAnswer) (q : Seq) : (s.initiated f a q).seq = q := by simp [State.initiated]
@[simp] theorem State.initiated_opCh (f : Frame) (a : InitiatorAnswer) (q : Seq) : (s.initiated f a q).opCh = s.opCh := by simp [State.initiated]
@[simp] theorem State.initiated_opVal (f : Frame) (a : InitiatorAnswer) (q : Seq) : (s.initiated f a q).opVal = s.opVal := by simp [State.initiated]
@[simp] theorem State.initiated_opIdx (f : Frame) (a : InitiatorAnswer) (q : Seq) : (s.initiated f a q).opIdx = s.opIdx := by simp [State.initiated]
@[simp] theorem State.initiated_frame (f : Frame) (a : InitiatorAnswer) (q : Seq) : (s.initiated f a q).frame = s.frame := by simp [State.initiated]
@[simp] theorem State.initiated_busAnswer (f : Frame) (a : InitiatorAnswer) (q : Seq) : (s.initiated f a q).busAnswer = s.busAnswer := by simp [State.initiated]
@[simp] theorem State.initiated_halted (f : Frame) (a : InitiatorAnswer) (q : Seq) : (s.initiated f a q).halted = s.halted := by simp [State.initiated]
@[simp] theorem State.initiated_lineEN (f : Frame) (a : InitiatorAnswer) (q : Seq) : (s.initiated f a q).lineEN = s.lineEN := by simp [State.initiated]
@[simp] theorem State.initiated_lineSEL (f : Frame) (a : InitiatorAnswer) (q : Seq) : (s.initiated f a q).lineSEL = s.lineSEL := by simp [State.initiated]
@[simp] theorem State.initiated_lineRST (f : Frame) (a : InitiatorAnswer) (q : Seq) : (s.initiated f a q).lineRST = s.lineRST := by simp [State.initiated]
@[simp] theorem State.initiated_pending (f : Frame) (a : InitiatorAnswer) (q : Seq) : (s.initiated f a q).pending = if a = InitiatorAnswer.deferred then s.pending ++ [f] else s.pending := by simp [State.initiated]
@[simp] theorem State.initiated_trace (f : Frame) (a : InitiatorAnswer) (q : Seq) : (s.initiated f a q).trace = s.trace ++ [.init f] := by simp [State.initiated]
@[simp] theorem State.initiated_responses (f : Frame) (a : InitiatorAnswer) (q : Seq) : (s.initiated f a q).responses = s.responses := by simp [State.initiated]
@[simp] theorem State.initiated_verdicts (f : Frame) (a : InitiatorAnswer) (q : Seq) : (s.initiated f a q).verdicts = s.verdicts := by simp [State.initiated]
@[simp] theorem State.initiated_inputs (f : Frame) (a : InitiatorAnswer) (q : Seq) : (s.initiated f a q).inputs = s.inputs := by simp [State.initiated]
@[simp] theorem State.initiated_lineReplies (f : Frame) (a : InitiatorAnswer) (q : Seq) : (s.initiated f a q).lineReplies = s.lineReplies := by simp [State.initiated]
@[simp] theorem State.initiated_busReplies (f : Frame) (a : InitiatorAnswer) (q : Seq) : (s.initiated f a q).busReplies = s.busReplies := by simp [State.initiated]
@[simp] theorem State.initiated_initiatorReplies (f : Frame) (a : InitiatorAnswer) (q : Seq) : (s.initiated f a q).initiatorReplies = s.initiatorReplies.tail := by simp [State.initiated]
@[simp] theorem State.initiated_lineDraws (f : Frame) (a : InitiatorAnswer) (q : Seq) : (s.initiated f a q).lineDraws = s.lineDraws := by simp [State.initiated]
@[simp] theorem State.initiated_busDraws (f : Frame) (a : InitiatorAnswer) (q : Seq) : (s.initiated f a q).busDraws = s.busDraws := by simp [State.initiated]
@[simp] theorem State.initiated_initiatorDraws (f : Frame) (a : InitiatorAnswer) (q : Seq) : (s.initiated f a q).initiatorDraws = if s.initiatorReplies = [] then s.initiatorDraws + 1 else s.initiatorDraws := by simp [State.initiated]

/-! ### One step of the sequencer -/

variable {s}
variable {p : Params} {t : State}

/-- Everything a step of the sequencer can be: nothing when idle, a drive, a wait, the building of the
frame, the bus write, a call of the initiator, or an end. -/
theorem State.advance_next (h : s.advance p = .next t) :
    (s.seq = .idle ∧ t = s) ∨
    (∃ l x a q, s.lineReply = .answer a ∧ t = s.driven l x a q) ∨
    (∃ q, t = (s.emit .wait).goto q) ∨
    (∃ c v q, s.opCh = some c ∧ s.opVal = some v ∧
      t = (s.holdFrame (encodeFrame p c v)).goto q) ∨
    (∃ f a, s.seq = .write4 ∧ s.frame = some f ∧ s.busReply = .answer a ∧ t = s.written p f a) ∨
    (∃ f a, s.seq = .prepare4 ∧ s.frame = some f ∧ s.initiatorReply = .answer a ∧
      t = s.initiated f a .prepare5) ∨
    (s.seq = .enable10 ∧ t = s.activate.respond (.ok 0#24)) ∨
    (∃ a, s.seq = .write7 ∧ s.busAnswer = some a ∧
      t = s.respond (if a = BusAnswer.ok then .ok 0#24 else .busWriteError)) ∨
    (∃ a, s.seq = .prepare6 ∧ s.lineReply = .answer a ∧
      t = (s.driven .EN .high a .idle).respond (.ok 0#24)) := by
  have hd : ∀ l x q, s.drive l x q = .next t →
      ∃ l x a q, s.lineReply = .answer a ∧ t = s.driven l x a q := fun l x q h =>
    let ⟨a, ha, ht⟩ := State.drive_next.1 h; ⟨l, x, a, q, ha, ht⟩
  have hw : ∀ q, s.wait q = .next t → ∃ q, t = (s.emit .wait).goto q := fun q h =>
    ⟨q, (Host.Outcome.next.inj h).symm⟩
  have hb : ∀ q, s.buildFrame p q = .next t → ∃ c v q, s.opCh = some c ∧ s.opVal = some v ∧
      t = (s.holdFrame (encodeFrame p c v)).goto q := fun q h =>
    let ⟨c, v, hc, hv, ht⟩ := State.buildFrame_next.1 h; ⟨c, v, q, hc, hv, ht⟩
  unfold State.advance at h
  split at h <;> rename_i hs
  case h_1 => exact .inl ⟨hs, (Host.Outcome.next.inj h).symm⟩
  case h_11 => exact .inr (.inr (.inr (.inr (.inr (.inr (.inl ⟨hs, (Host.Outcome.next.inj h).symm⟩))))))
  case h_15 =>
    obtain ⟨f, a, hf, ha, ht⟩ := State.busWrite_next.1 h
    exact .inr (.inr (.inr (.inr (.inl ⟨f, a, hs, hf, ha, ht⟩))))
  case h_18 =>
    obtain ⟨a, ha, ht⟩ := State.reportBus_next.1 h
    exact .inr (.inr (.inr (.inr (.inr (.inr (.inr (.inl ⟨a, hs, ha, ht⟩)))))))
  case h_22 =>
    obtain ⟨f, a, hf, ha, ht⟩ := State.initiate_next.1 h
    exact .inr (.inr (.inr (.inr (.inr (.inl ⟨f, a, hs, hf, ha, ht⟩)))))
  case h_24 =>
    obtain ⟨u, hu, ht⟩ := andThen_eq_next.1 h
    obtain ⟨a, ha, rfl⟩ := State.drive_next.1 hu
    exact .inr (.inr (.inr (.inr (.inr (.inr (.inr (.inr
      ⟨a, hs, ha, (Host.Outcome.next.inj ht).symm⟩)))))))
  all_goals first
    | exact .inr (.inl (hd _ _ _ h))
    | exact .inr (.inr (.inl (hw _ h)))
    | exact .inr (.inr (.inr (.inl (hb _ h))))

/-- A step of the sequencer appends at most one event. -/
theorem State.advance_trace (h : s.advance p = .next t) :
    ∃ es, t.trace = s.trace ++ es ∧ es.length ≤ 1 := by
  rcases State.advance_next h with ⟨-, rfl⟩ | ⟨_, _, _, _, -, rfl⟩ | ⟨_, rfl⟩ | ⟨_, _, _, -, -, rfl⟩ |
    ⟨_, _, -, -, -, rfl⟩ | ⟨_, _, -, -, -, rfl⟩ | ⟨-, rfl⟩ | ⟨_, -, -, rfl⟩ | ⟨_, -, -, rfl⟩
  · exact ⟨[], by simp⟩
  · exact ⟨[_], by simp; rfl⟩
  · exact ⟨[_], by simp; rfl⟩
  · exact ⟨[], by simp⟩
  · exact ⟨[_], by simp; rfl⟩
  · exact ⟨[_], by simp; rfl⟩
  · exact ⟨[], by simp⟩
  · exact ⟨[], by simp⟩
  · exact ⟨[_], by simp; rfl⟩

/-- A step of the sequencer touches neither the inputs nor the halt, and writes `active` only at the
last step of `ENABLE` (10_state.md rule R11). -/
theorem State.advance_keeps (h : s.advance p = .next t) :
    t.inputs = s.inputs ∧ t.halted = s.halted ∧
      (t.active = s.active ∨ (s.seq = .enable10 ∧ t.active = true)) := by
  rcases State.advance_next h with ⟨-, rfl⟩ | ⟨_, _, _, _, -, rfl⟩ | ⟨_, rfl⟩ | ⟨_, _, _, -, -, rfl⟩ |
    ⟨_, _, -, -, -, rfl⟩ | ⟨_, _, -, -, -, rfl⟩ | ⟨hs, rfl⟩ | ⟨_, -, -, rfl⟩ | ⟨_, -, -, rfl⟩ <;>
    simp_all

end Sys2Proof.Machine
end

