-- ==== Sys2Proof/Laws/Runs.lean ====
section
/-!
SUPPORT. The runs of the three sequences, once and for all: `ENABLE`, `WRITE_BLOCKING` and
`PREPARE_TRANSFER` either meet a call that never returns, or end in the state named here.
-/

namespace Sys2Proof.Machine

variable {p : Params} {s : State}

/-! ### Steps of a run -/

/-- A run whose next step is a drive: the drive never returns, or the run goes on after it; the
premise on the lines moves along. -/
theorem State.runSteps_drive {n : Nat} {l : Line} {x : Level} {q : Seq} (m : Nat)
    (h : s.advance p = s.drive l x q) :
    (s.runSteps p (n + 1) = .fault (.neverReturned .line) ∧ ¬ s.LinesReturn (m + 1)) ∨
    ∃ a, s.lineReply = .answer a ∧ s.runSteps p (n + 1) = (s.driven l x a q).runSteps p n ∧
      (s.LinesReturn (m + 1) ↔ (s.driven l x a q).LinesReturn m) := by
  cases ha : s.lineReply with
  | never =>
    refine .inl ⟨?_, fun hl => (State.linesReturn_succ.1 hl).1 ha⟩
    rw [State.runSteps_succ, h, State.drive_never ha]
    rfl
  | answer a =>
    refine .inr ⟨a, rfl, State.runSteps_step (h.trans (State.drive_answer ha ..)), ?_⟩
    rw [State.linesReturn_succ,
      State.linesReturn_congr (s := s.lineAsked) (t := s.driven l x a q) (by simp)]
    simp [ha]

theorem State.linesReturn_zero (s : State) : s.LinesReturn 0 := by
  intro r hr
  simp at hr

/-- A drive that meets a listed reply draws no free answer. -/
theorem State.driven_lineDraws (h : s.lineReplies ≠ []) (l : Line) (x : Level) (a : LineAnswer)
    (q : Seq) : (s.driven l x a q).lineDraws = s.lineDraws := by
  obtain ⟨r, rest, h⟩ := List.exists_cons_of_ne_nil h
  cases l <;> simp [State.driven, State.lineAsked_of_cons h, State.setLine, State.emit, State.goto]

/-! ### `ENABLE` -/

/-- After step 5 of the handshake (43_lifecycle.md rule R97). -/
def State.enableHalf (s : State) (a1 a2 a3 a4 a5 : LineAnswer) : State :=
  s.goto .enable1 |>.driven .EN .low a1 .enable2 |>.driven .SEL .low a2 .enable3
    |>.driven .SEL .high a3 .enable4 |>.driven .EN .high a4 .enable5
    |>.driven .RST .low a5 .enable6

/-- After the second wait of the handshake. -/
def State.enableWaited (s : State) (a1 a2 a3 a4 a5 a6 : LineAnswer) : State :=
  s.enableHalf a1 a2 a3 a4 a5 |>.emit .wait |>.goto .enable7
    |>.driven .RST .high a6 .enable8 |>.emit .wait |>.goto .enable9

/-- After the handshake, with the seven line answers it met. -/
def State.enabled (s : State) (a1 a2 a3 a4 a5 a6 a7 : LineAnswer) : State :=
  s.enableWaited a1 a2 a3 a4 a5 a6 |>.driven .RST .low a7 .enable10 |>.activate
    |>.respond (.ok 0#24)

/-- Everything the run of the handshake can do. -/
theorem State.run_enable (p : Params) (s : State) :
    (¬ s.LinesReturn 7 ∧ (s.goto .enable1).runSteps p 10 = .fault (.neverReturned .line)) ∨
    (s.LinesReturn 7 ∧ ∃ a1 a2 a3 a4 a5 a6 a7,
      (s.goto .enable1).runSteps p 10 = .next (s.enabled a1 a2 a3 a4 a5 a6 a7)) := by
  have g1 : (s.goto .enable1).LinesReturn 7 ↔ s.LinesReturn 7 := State.linesReturn_congr (by simp)
  rcases State.runSteps_drive (p := p) (s := s.goto .enable1) (n := 9) 6 rfl with
    ⟨e, l⟩ | ⟨a1, -, e1, l1⟩
  · exact .inl ⟨fun h => l (g1.2 h), e⟩
  have g1 := g1.symm.trans l1
  rcases State.runSteps_drive (p := p) (s := s.goto .enable1 |>.driven .EN .low a1 .enable2)
    (n := 8) 5 rfl with ⟨e, l⟩ | ⟨a2, -, e2, l2⟩
  · exact .inl ⟨fun h => l (g1.1 h), e1.trans e⟩
  have g2 := g1.trans l2
  have e2 := e1.trans e2
  rcases State.runSteps_drive (p := p) (s := s.goto .enable1 |>.driven .EN .low a1 .enable2
    |>.driven .SEL .low a2 .enable3) (n := 7) 4 rfl with ⟨e, l⟩ | ⟨a3, -, e3, l3⟩
  · exact .inl ⟨fun h => l (g2.1 h), e2.trans e⟩
  have g3 := g2.trans l3
  have e3 := e2.trans e3
  rcases State.runSteps_drive (p := p) (s := s.goto .enable1 |>.driven .EN .low a1 .enable2
    |>.driven .SEL .low a2 .enable3 |>.driven .SEL .high a3 .enable4) (n := 6) 3 rfl with
    ⟨e, l⟩ | ⟨a4, -, e4, l4⟩
  · exact .inl ⟨fun h => l (g3.1 h), e3.trans e⟩
  have g4 := g3.trans l4
  have e4 := e3.trans e4
  rcases State.runSteps_drive (p := p) (s := s.goto .enable1 |>.driven .EN .low a1 .enable2
    |>.driven .SEL .low a2 .enable3 |>.driven .SEL .high a3 .enable4
    |>.driven .EN .high a4 .enable5) (n := 5) 2 rfl with ⟨e, l⟩ | ⟨a5, -, e5, l5⟩
  · exact .inl ⟨fun h => l (g4.1 h), e4.trans e⟩
  have g5 : s.LinesReturn 7 ↔
      (s.enableHalf a1 a2 a3 a4 a5 |>.emit .wait |>.goto .enable7).LinesReturn 2 :=
    (g4.trans l5).trans (State.linesReturn_congr rfl).symm
  have e5 : (s.goto .enable1).runSteps p 10 =
      (s.enableHalf a1 a2 a3 a4 a5 |>.emit .wait |>.goto .enable7).runSteps p 4 :=
    (e4.trans e5).trans (State.runSteps_step rfl)
  rcases State.runSteps_drive (p := p)
    (s := s.enableHalf a1 a2 a3 a4 a5 |>.emit .wait |>.goto .enable7) (n := 3) 1 rfl with
    ⟨e, l⟩ | ⟨a6, -, e6, l6⟩
  · exact .inl ⟨fun h => l (g5.1 h), e5.trans e⟩
  have g6 : s.LinesReturn 7 ↔ (s.enableWaited a1 a2 a3 a4 a5 a6).LinesReturn 1 :=
    (g5.trans l6).trans (State.linesReturn_congr rfl).symm
  have e6 : (s.goto .enable1).runSteps p 10 = (s.enableWaited a1 a2 a3 a4 a5 a6).runSteps p 2 :=
    (e5.trans e6).trans (State.runSteps_step rfl)
  rcases State.runSteps_drive (p := p) (s := s.enableWaited a1 a2 a3 a4 a5 a6) (n := 1) 0 rfl with
    ⟨e, l⟩ | ⟨a7, -, e7, l7⟩
  · exact .inl ⟨fun h => l (g6.1 h), e6.trans e⟩
  exact .inr ⟨(g6.trans l7).2 (State.linesReturn_zero _), a1, a2, a3, a4, a5, a6, a7, e6.trans e7⟩

/-! ### `WRITE_BLOCKING` -/

/-- After step 3 of a write (44_transfer.md rule R111). -/
def State.writeOpened (s : State) (p : Params) (c : Channel) (v : Value) (a1 a2 : LineAnswer) : State :=
  s.latchTransfer c v |>.goto .write1 |>.holdFrame (encodeFrame p c v) |>.goto .write2
    |>.driven .EN .low a1 .write3 |>.driven .SEL .low a2 .write4

/-- After a write with its closing line events. -/
def State.writeClosed (s : State) (p : Params) (c : Channel) (v : Value) (b : BusAnswer)
    (a1 a2 a3 a4 : LineAnswer) : State :=
  (s.writeOpened p c v a1 a2).written p (encodeFrame p c v) b |>.driven .SEL .high a3 .write6
    |>.driven .EN .high a4 .write7
    |>.respond (if b = BusAnswer.ok then .ok 0#24 else .busWriteError)

/-- After a failed write without its closing line events (44_transfer.md rule R118, the parameter
`false`). -/
def State.writeLeftOpen (s : State) (p : Params) (c : Channel) (v : Value) (a1 a2 : LineAnswer) :
    State :=
  (s.writeOpened p c v a1 a2).written p (encodeFrame p c v) .fail |>.respond .busWriteError

@[simp] theorem State.writeOpened_busReply (c : Channel) (v : Value) (a1 a2 : LineAnswer) :
    (s.writeOpened p c v a1 a2).busReply = s.busReply := by
  simp [State.writeOpened, State.busReply]

/-- Everything the run of a write can do. -/
theorem State.run_write (p : Params) (s : State) (c : Channel) (v : Value) :
    (∃ who, ((s.latchTransfer c v).goto .write1).runSteps p 7 = .fault (.neverReturned who) ∧
      (s.LinesReturn 4 → ¬ s.BusReturns)) ∨
    (∃ a1 a2, s.busReply = .answer .fail ∧ p.deassertOnBusError = false ∧
      ((s.latchTransfer c v).goto .write1).runSteps p 7 = .next (s.writeLeftOpen p c v a1 a2)) ∨
    (∃ b a1 a2 a3 a4, s.busReply = .answer b ∧ ¬ (b = .fail ∧ p.deassertOnBusError = false) ∧
      s.LinesReturn 4 ∧
      ((s.latchTransfer c v).goto .write1).runSteps p 7 =
        .next (s.writeClosed p c v b a1 a2 a3 a4)) := by
  have e0 : ((s.latchTransfer c v).goto .write1).runSteps p 7 =
      (s.latchTransfer c v |>.goto .write1 |>.holdFrame (encodeFrame p c v) |>.goto .write2).runSteps
        p 6 :=
    State.runSteps_step
      (State.buildFrame_some (s := (s.latchTransfer c v).goto .write1) (by simp) (by simp) _)
  have g0 : s.LinesReturn 4 ↔ (s.latchTransfer c v |>.goto .write1
      |>.holdFrame (encodeFrame p c v) |>.goto .write2).LinesReturn 4 :=
    (State.linesReturn_congr (by simp)).symm
  rcases State.runSteps_drive (p := p) (s := s.latchTransfer c v |>.goto .write1
      |>.holdFrame (encodeFrame p c v) |>.goto .write2) (n := 5) 3 rfl with ⟨e, l⟩ | ⟨a1, -, e1, l1⟩
  · exact .inl ⟨_, e0.trans e, fun h => absurd (g0.1 h) l⟩
  have g1 := g0.trans l1
  have e1 := e0.trans e1
  rcases State.runSteps_drive (p := p) (s := s.latchTransfer c v |>.goto .write1
      |>.holdFrame (encodeFrame p c v) |>.goto .write2 |>.driven .EN .low a1 .write3) (n := 4) 2
      rfl with ⟨e, l⟩ | ⟨a2, -, e2, l2⟩
  · exact .inl ⟨_, e1.trans e, fun h => absurd (g1.1 h) l⟩
  have g2 : s.LinesReturn 4 ↔ (s.writeOpened p c v a1 a2).LinesReturn 2 := g1.trans l2
  have e2 : ((s.latchTransfer c v).goto .write1).runSteps p 7 =
      (s.writeOpened p c v a1 a2).runSteps p 4 := e1.trans e2
  have hf : (s.writeOpened p c v a1 a2).frame = some (encodeFrame p c v) := by
    simp [State.writeOpened]
  have hadv : (s.writeOpened p c v a1 a2).advance p = (s.writeOpened p c v a1 a2).busWrite p := rfl
  cases hb : s.busReply with
  | never =>
    refine .inl ⟨.bus, e2.trans ?_, fun _ h => h hb⟩
    rw [State.runSteps_succ, hadv]
    simp [State.busWrite, hf, hb]
  | answer b =>
    have e3 := e2.trans (State.runSteps_step (n := 3)
      (hadv.trans (State.busWrite_answer hf (by simpa using hb))))
    by_cases hd : b = .fail ∧ p.deassertOnBusError = false
    · obtain ⟨rfl, hp⟩ := hd
      refine .inr (.inl ⟨a1, a2, rfl, hp, e3.trans ?_⟩)
      refine (State.runSteps_step (u := s.writeLeftOpen p c v a1 a2) ?_).trans
        (State.runSteps_idle (by simp [State.writeLeftOpen]) _)
      have hs7 : ((s.writeOpened p c v a1 a2).written p (encodeFrame p c v) BusAnswer.fail).seq =
          Seq.write7 := by simp [hp]
      rw [State.advance, hs7]
      exact State.reportBus_some (a := .fail) (by simp)
    · have hs5 : ((s.writeOpened p c v a1 a2).written p (encodeFrame p c v) b).seq = .write5 := by
        simp only [State.written_seq, if_neg hd]
      have g3 : s.LinesReturn 4 ↔
          ((s.writeOpened p c v a1 a2).written p (encodeFrame p c v) b).LinesReturn 2 :=
        g2.trans (State.linesReturn_congr (by simp)).symm
      rcases State.runSteps_drive (p := p)
        (s := (s.writeOpened p c v a1 a2).written p (encodeFrame p c v) b) (n := 2) (l := .SEL)
        (x := .high) (q := .write6) 1 (by rw [State.advance, hs5]) with ⟨e, l⟩ | ⟨a3, -, e4, l4⟩
      · exact .inl ⟨_, e3.trans e, fun h => absurd (g3.1 h) l⟩
      have g4 := g3.trans l4
      have e4 := e3.trans e4
      rcases State.runSteps_drive (p := p)
        (s := (s.writeOpened p c v a1 a2).written p (encodeFrame p c v) b
          |>.driven .SEL .high a3 .write6) (n := 1) 0 rfl with ⟨e, l⟩ | ⟨a4, -, e5, l5⟩
      · exact .inl ⟨_, e4.trans e, fun h => absurd (g4.1 h) l⟩
      exact .inr (.inr ⟨b, a1, a2, a3, a4, rfl, hd, (g4.trans l5).2 (State.linesReturn_zero _),
        (e4.trans e5).trans (State.runSteps_step (State.reportBus_some (by simp)))⟩)

/-! ### `PREPARE_TRANSFER` -/

/-- After step 3 of a deferred transfer (44_transfer.md rule R119). -/
def State.prepareOpened (s : State) (p : Params) (c : Channel) (v : Value) (a1 a2 : LineAnswer) :
    State :=
  s.latchTransfer c v |>.goto .prepare1 |>.driven .EN .low a1 .prepare2
    |>.driven .SEL .low a2 .prepare3 |>.holdFrame (encodeFrame p c v) |>.goto .prepare4

/-- After a deferred transfer. -/
def State.prepareClosed (s : State) (p : Params) (c : Channel) (v : Value) (b : InitiatorAnswer)
    (a1 a2 a3 a4 : LineAnswer) : State :=
  (s.prepareOpened p c v a1 a2).initiated (encodeFrame p c v) b .prepare5
    |>.driven .SEL .high a3 .prepare6 |>.driven .EN .high a4 .idle |>.respond (.ok 0#24)

@[simp] theorem State.prepareOpened_initiatorReply (c : Channel) (v : Value) (a1 a2 : LineAnswer) :
    (s.prepareOpened p c v a1 a2).initiatorReply = s.initiatorReply := by
  simp [State.prepareOpened, State.initiatorReply]

/-- Everything the run of a deferred transfer can do. -/
theorem State.run_prepare (p : Params) (s : State) (c : Channel) (v : Value) :
    (∃ who, ((s.latchTransfer c v).goto .prepare1).runSteps p 6 = .fault (.neverReturned who) ∧
      (s.LinesReturn 4 → ¬ s.InitiatorReturns)) ∨
    (∃ b a1 a2 a3 a4, s.initiatorReply = .answer b ∧ s.LinesReturn 4 ∧
      ((s.latchTransfer c v).goto .prepare1).runSteps p 6 =
        .next (s.prepareClosed p c v b a1 a2 a3 a4)) := by
  have g0 : s.LinesReturn 4 ↔ ((s.latchTransfer c v).goto .prepare1).LinesReturn 4 :=
    (State.linesReturn_congr (by simp)).symm
  rcases State.runSteps_drive (p := p) (s := (s.latchTransfer c v).goto .prepare1) (n := 5) 3 rfl
    with ⟨e, l⟩ | ⟨a1, -, e1, l1⟩
  · exact .inl ⟨_, e, fun h => absurd (g0.1 h) l⟩
  have g1 := g0.trans l1
  rcases State.runSteps_drive (p := p) (s := s.latchTransfer c v |>.goto .prepare1
    |>.driven .EN .low a1 .prepare2) (n := 4) 2 rfl with ⟨e, l⟩ | ⟨a2, -, e2, l2⟩
  · exact .inl ⟨_, e1.trans e, fun h => absurd (g1.1 h) l⟩
  have g2 : s.LinesReturn 4 ↔ (s.prepareOpened p c v a1 a2).LinesReturn 2 :=
    (g1.trans l2).trans (State.linesReturn_congr (by simp [State.prepareOpened])).symm
  have e2 : ((s.latchTransfer c v).goto .prepare1).runSteps p 6 =
      (s.prepareOpened p c v a1 a2).runSteps p 3 :=
    (e1.trans e2).trans (State.runSteps_step (State.buildFrame_some (by simp) (by simp) _))
  have hf : (s.prepareOpened p c v a1 a2).frame = some (encodeFrame p c v) := by
    simp [State.prepareOpened]
  have hadv : (s.prepareOpened p c v a1 a2).advance p =
    (s.prepareOpened p c v a1 a2).initiate .prepare5 := rfl
  cases hb : s.initiatorReply with
  | never =>
    refine .inl ⟨.initiator, e2.trans ?_, fun _ h => h hb⟩
    rw [State.runSteps_succ, hadv]
    simp [State.initiate, hf, hb]
  | answer b =>
    have e3 := e2.trans (State.runSteps_step (n := 2)
      (hadv.trans (State.initiate_answer hf (by simpa using hb) _)))
    have g3 : s.LinesReturn 4 ↔ ((s.prepareOpened p c v a1 a2).initiated (encodeFrame p c v) b
        .prepare5).LinesReturn 2 := g2.trans (State.linesReturn_congr (by simp)).symm
    rcases State.runSteps_drive (p := p) (s := (s.prepareOpened p c v a1 a2).initiated
      (encodeFrame p c v) b .prepare5) (n := 1) 1 rfl with ⟨e, l⟩ | ⟨a3, -, e4, l4⟩
    · exact .inl ⟨_, e3.trans e, fun h => absurd (g3.1 h) l⟩
    have g4 := g3.trans l4
    have e4 := e3.trans e4
    have hlast : ∀ u : State, u.seq = .prepare6 → u.runSteps p 1 =
        andThen (u.drive .EN .high .idle) (fun t => .next (t.finish 0#24)) := by
      intro u hu
      rw [State.runSteps_succ, State.advance, hu]
      cases u.drive .EN .high .idle <;> rfl
    have e5 := e4.trans (hlast _ (by simp))
    cases ha : ((s.prepareOpened p c v a1 a2).initiated (encodeFrame p c v) b .prepare5
      |>.driven .SEL .high a3 .prepare6).lineReply with
    | never =>
      rw [State.drive_never ha] at e5
      exact .inl ⟨_, e5, fun h => absurd ha (State.linesReturn_succ.1 (g4.1 h)).1⟩
    | answer a4 =>
      rw [State.drive_answer ha] at e5
      exact .inr ⟨b, a1, a2, a3, a4, rfl,
        g4.2 (State.linesReturn_succ.2 ⟨by simp [ha], State.linesReturn_zero _⟩), e5⟩

end Sys2Proof.Machine
end

