-- ==== Sys2Proof/Laws/Exec.lean ====
section
/-!
SUPPORT. Inversion: what an instruction that gives a next state has done, one lemma per instruction;
and what the fetch does.
-/

namespace Sys2Proof.Machine

variable {s t : State}

theorem exec_encode_next {c : Channel} {v : Value} (h : exec (.encode c v) s = .next t) :
    s.seq = .idle ∧ s.halted = false ∧
      t = s.respond (.ok (frameNumber (encodeFrame specParams c v))) := by
  obtain ⟨h1, h2, h3⟩ := State.whenReady_next.1 (show s.whenReady _ = _ from h)
  exact ⟨h1, h2, (Host.Outcome.next.inj h3).symm⟩

/-- A frame word with a meaning means a frame row. -/
theorem decode_frame24_row {w : Word24} {i : Instr} (h : decode (.frame24 w) = .ok i) :
    ∃ c v, i = frameRow c v := by
  change decodeFrame24 w = .ok i at h
  unfold decodeFrame24 at h
  split at h <;> cases h
  · exact ⟨.A, _, rfl⟩
  · exact ⟨.B, _, rfl⟩
  · exact ⟨.C, _, rfl⟩
  · exact ⟨.D, _, rfl⟩
  · exact ⟨.All, _, rfl⟩

/-- A frame row notes its channel and value, from any state. -/
theorem exec_frameRow (c : Channel) (v : Value) (s : State) :
    exec (frameRow c v) s = .next (s.noteFrame (some (c, v))) := by
  cases c <;> rfl

/-- A frame row is none of the other instructions. -/
theorem frameRow_not_operation (c : Channel) (v : Value) :
    frameRow c v ≠ .enable ∧ frameRow c v ≠ .construct ∧ (∀ n, frameRow c v ≠ .fromIndex n) ∧
    (∀ d w, frameRow c v ≠ .writeBlocking d w) ∧ (∀ d w, frameRow c v ≠ .prepareTransfer d w) ∧
    ∀ d w, frameRow c v ≠ .encode d w := by
  cases c <;> simp [frameRow]

theorem exec_fromIndex_next {n : Nat} (h : exec (.fromIndex n) s = .next t) :
    s.seq = .idle ∧ s.halted = false ∧
      t = s.respond (match channelOfIndex n with
        | some c => .ok (channelReturn c)
        | none => .invalidIndex) := by
  obtain ⟨h1, h2, h3⟩ := State.whenReady_next.1 (show s.whenReady _ = _ from h)
  refine ⟨h1, h2, ?_⟩
  simp only [State.answerIndex, State.latchIndex_opIdx] at h3
  cases hc : channelOfIndex n <;> rw [hc] at h3
  · simp only [specParams, Bool.false_eq_true, if_false, Host.Outcome.next.injEq] at h3
    exact h3.symm
  · exact (Host.Outcome.next.inj h3).symm

theorem exec_construct_next (h : exec .construct s = .next t) : s.seq = .idle ∧ t = s.construct := by
  change execConstruct s = _ at h
  unfold execConstruct at h
  split at h
  · cases h
  · rename_i hs
    exact ⟨not_not.1 hs, (Host.Outcome.next.inj h).symm⟩

theorem exec_enable_next (h : exec .enable s = .next t) :
    s.seq = .idle ∧ s.halted = false ∧
      ∃ a1 a2 a3 a4 a5 a6 a7, t = s.enabled a1 a2 a3 a4 a5 a6 a7 := by
  obtain ⟨h1, h2, h3⟩ := State.whenReady_next.1 (show s.whenReady _ = _ from h)
  refine ⟨h1, h2, ?_⟩
  rcases State.run_enable specParams s with ⟨-, e⟩ | ⟨-, a1, a2, a3, a4, a5, a6, a7, e⟩
  · simp [e] at h3
  · exact ⟨a1, a2, a3, a4, a5, a6, a7, (Host.Outcome.next.inj (e.symm.trans h3)).symm⟩

/-- The guard of both transfers, taken apart (44_transfer.md rule R110). -/
theorem State.whenActive_next {body : Result} (h : s.whenActive body = .next t) :
    (s.active = false ∧ t = s.respond (.ok 0#24)) ∨ (s.active = true ∧ body = .next t) := by
  unfold State.whenActive at h
  split at h <;> rename_i ha
  · exact .inl ⟨ha, (Host.Outcome.next.inj h).symm⟩
  · exact .inr ⟨by simpa using ha, h⟩

theorem exec_write_next {c : Channel} {v : Value} (h : exec (.writeBlocking c v) s = .next t) :
    s.seq = .idle ∧ s.halted = false ∧
      ((s.active = false ∧ t = s.respond (.ok 0#24)) ∨
       (s.active = true ∧ ∃ b a1 a2 a3 a4, s.busReply = .answer b ∧
         t = s.writeClosed specParams c v b a1 a2 a3 a4)) := by
  obtain ⟨h1, h2, h3⟩ := State.whenReady_next.1 (show s.whenReady _ = _ from h)
  refine ⟨h1, h2, ?_⟩
  rcases State.whenActive_next h3 with h3 | ⟨ha, h3⟩
  · exact .inl h3
  rcases State.run_write specParams s c v with ⟨w, e, -⟩ | ⟨_, _, -, e, -⟩ |
    ⟨b, a1, a2, a3, a4, hb, -, -, e⟩
  · simp [e] at h3
  · simp [specParams] at e
  · exact .inr ⟨ha, b, a1, a2, a3, a4, hb, (Host.Outcome.next.inj (e.symm.trans h3)).symm⟩

theorem exec_prepare_next {c : Channel} {v : Value} (h : exec (.prepareTransfer c v) s = .next t) :
    s.seq = .idle ∧ s.halted = false ∧
      ((s.active = false ∧ t = s.respond (.ok 0#24)) ∨
       (s.active = true ∧ ∃ b a1 a2 a3 a4, s.initiatorReply = .answer b ∧
         t = s.prepareClosed specParams c v b a1 a2 a3 a4)) := by
  obtain ⟨h1, h2, h3⟩ := State.whenReady_next.1 (show s.whenReady _ = _ from h)
  refine ⟨h1, h2, ?_⟩
  rcases State.whenActive_next h3 with h3 | ⟨ha, h3⟩
  · exact .inl h3
  rcases State.run_prepare specParams s c v with ⟨w, e, -⟩ | ⟨b, a1, a2, a3, a4, hb, -, e⟩
  · simp [e] at h3
  · exact .inr ⟨ha, b, a1, a2, a3, a4, hb, (Host.Outcome.next.inj (e.symm.trans h3)).symm⟩

/-! ### All instructions at once -/

/-- What an instruction that gives a next state does, by shape: it is a frame row, it only answers, or it
is one of the four that do more. -/
inductive Effect (s : State) : Instr → State → Prop
  /-- the decoder of frames finds a frame, from any state -/
  | recognises (i : Instr) (c : Channel) (v : Value) (hi : i = frameRow c v) :
      Effect s i (s.noteFrame (some (c, v)))
  /-- a response and nothing else, which reports no bus failure -/
  | answers (i : Instr) (r : Response) (hs : s.seq = .idle) (hr : r ≠ .busWriteError)
      (hc : i ≠ .construct) (he : i ≠ .enable)
      (ht : s.active = true → (∀ c v, i ≠ .writeBlocking c v) ∧ ∀ c v, i ≠ .prepareTransfer c v) :
      Effect s i (s.respond r)
  | constructs (hs : s.seq = .idle) : Effect s .construct s.construct
  | enables (hs : s.seq = .idle) (a1 a2 a3 a4 a5 a6 a7 : LineAnswer) :
      Effect s .enable (s.enabled a1 a2 a3 a4 a5 a6 a7)
  | writes (hs : s.seq = .idle) (c : Channel) (v : Value) (b : BusAnswer)
      (a1 a2 a3 a4 : LineAnswer) (ha : s.active = true) (hb : s.busReply = .answer b) :
      Effect s (.writeBlocking c v) (s.writeClosed specParams c v b a1 a2 a3 a4)
  | prepares (hs : s.seq = .idle) (c : Channel) (v : Value) (b : InitiatorAnswer)
      (a1 a2 a3 a4 : LineAnswer) (ha : s.active = true) (hb : s.initiatorReply = .answer b) :
      Effect s (.prepareTransfer c v) (s.prepareClosed specParams c v b a1 a2 a3 a4)

theorem exec_effect {i : Instr} (h : exec i s = .next t) : Effect s i t := by
  have row : ∀ c v, exec (frameRow c v) s = .next t → ∀ i, i = frameRow c v → Effect s i t := by
    intro c v h i hi
    rw [exec_frameRow] at h
    exact Host.Outcome.next.inj h ▸ .recognises i c v hi
  cases i with
  | frameA v => exact row .A v h _ rfl
  | frameB v => exact row .B v h _ rfl
  | frameC v => exact row .C v h _ rfl
  | frameD v => exact row .D v h _ rfl
  | frameAll v => exact row .All v h _ rfl
  | enable =>
    obtain ⟨hs, -, a1, a2, a3, a4, a5, a6, a7, rfl⟩ := exec_enable_next h
    exact .enables hs ..
  | writeBlocking c v =>
    obtain ⟨hs, -, ⟨ha, rfl⟩ | ⟨ha, b, a1, a2, a3, a4, hb, rfl⟩⟩ := exec_write_next h
    · exact .answers _ _ hs (by simp) (by simp) (by simp) (by simp [ha])
    · exact .writes hs _ _ _ _ _ _ _ ha hb
  | prepareTransfer c v =>
    obtain ⟨hs, -, ⟨ha, rfl⟩ | ⟨ha, b, a1, a2, a3, a4, hb, rfl⟩⟩ := exec_prepare_next h
    · exact .answers _ _ hs (by simp) (by simp) (by simp) (by simp [ha])
    · exact .prepares hs _ _ _ _ _ _ _ ha hb
  | fromIndex n =>
    obtain ⟨hs, -, rfl⟩ := exec_fromIndex_next h
    exact .answers _ _ hs (by split <;> simp) (by simp) (by simp) (by simp)
  | encode c v =>
    obtain ⟨hs, -, rfl⟩ := exec_encode_next h
    exact .answers _ _ hs (by simp) (by simp) (by simp) (by simp)
  | construct =>
    obtain ⟨hs, rfl⟩ := exec_construct_next h
    exact .constructs hs

/-! ### The step -/

/-- A fetched instruction: an operation for an idle block, or a frame row; its word is taken from the
inputs. -/
theorem State.fetch_run {i : Instr} {u : State} (h : s.fetch = .run i u) :
    (s.seq = .idle ∨ ∃ c v, i = frameRow c v) ∧ u = s.takeInput := by
  have hp : ∀ x, s.present x = .run i u → u = s.takeInput := by
    intro x hx
    unfold State.present at hx
    split at hx
    · exact (Fetched.run.inj hx).2.symm
    · cases hx
  unfold State.fetch at h
  split at h
  · cases h
  · unfold State.seeFrame at h
    split at h <;> rename_i hd
    · obtain ⟨rfl, rfl⟩ := Fetched.run.inj h
      exact ⟨.inr (decode_frame24_row hd), rfl⟩
    · cases h
  · split at h <;> rename_i hs
    · exact ⟨.inl hs, hp _ h⟩
    · cases h
  · split at h
    · cases h
    · split at h <;> rename_i hs
      · exact ⟨.inl hs, hp _ h⟩
      · cases h
  · cases h

/-- A fetch that runs no instruction, and yet has a next state. -/
theorem State.fetch_done (h : s.fetch = .done (.next t)) :
    (∃ f, t = s.takeInput.frameOut f) ∨ t = s.takeInput.noteFrame none ∨ t = s.takeInput ∨
      s.advance specParams = .next t := by
  have hp : ∀ x, s.present x ≠ .done (.next t) := by
    intro x hx
    unfold State.present at hx
    split at hx <;> cases hx
  unfold State.fetch at h
  split at h
  · exact .inl ⟨_, (Host.Outcome.next.inj (Fetched.done.inj h)).symm⟩
  · unfold State.seeFrame at h
    split at h
    · cases h
    · exact .inr (.inl (Host.Outcome.next.inj (Fetched.done.inj h)).symm)
  · split at h
    · exact absurd h (hp _)
    · exact .inr (.inr (.inr (Fetched.done.inj h)))
  · split at h
    · exact .inr (.inr (.inl (Host.Outcome.next.inj (Fetched.done.inj h)).symm))
    · split at h
      · exact absurd h (hp _)
      · cases h
  · exact .inr (.inr (.inr (Fetched.done.inj h)))

/-- Everything a step with a next state can be: an instruction, an input that is none, or a step of
the sequencer. -/
theorem step_next (h : step s = .next t) :
    (∃ i, s.nextInstr = some i ∧ (s.seq = .idle ∨ ∃ c v, i = frameRow c v) ∧
      exec i s.takeInput = .next t) ∨
    (s.nextInstr = none ∧ ∃ f, t = s.takeInput.frameOut f) ∨
    (s.nextInstr = none ∧ t = s.takeInput.noteFrame none) ∨
    (s.nextInstr = none ∧ t = s.takeInput) ∨
    (s.nextInstr = none ∧ s.advance specParams = .next t) := by
  cases hf : s.fetch with
  | run i u =>
    obtain ⟨hs, rfl⟩ := State.fetch_run hf
    exact .inl ⟨i, by simp [State.nextInstr, hf], hs, by simpa [step, hf] using h⟩
  | done o =>
    have hn : s.nextInstr = none := by simp [State.nextInstr, hf]
    have ho : o = .next t := by simpa [step, hf] using h
    rcases State.fetch_done (ho ▸ hf) with h1 | h1 | h1 | h1
    · exact .inr (.inl ⟨hn, h1⟩)
    · exact .inr (.inr (.inl ⟨hn, h1⟩))
    · exact .inr (.inr (.inr (.inl ⟨hn, h1⟩)))
    · exact .inr (.inr (.inr (.inr ⟨hn, h1⟩)))

end Sys2Proof.Machine
end

