-- ==== Sys2Proof/Laws/Words.lean ====
section
/-!
SUPPORT. Putting a word together from its fields and taking it apart again (30_encoding.md rules R51,
R55), and the channel ids (rule R57).
-/

namespace Sys2Proof

/-! ### The numbers of words and fields -/

theorem reqWord_toNat (op ch : BitVec 4) (imm : BitVec 16) :
    (reqWord op ch imm).toNat = op.toNat * 2 ^ 20 + ch.toNat * 2 ^ 16 + imm.toNat := by
  rw [reqWord, BitVec.toNat_append, BitVec.toNat_append, ← Nat.shiftLeft_add_eq_or_of_lt imm.isLt,
    ← Nat.shiftLeft_add_eq_or_of_lt ch.isLt, Nat.shiftLeft_eq, Nat.shiftLeft_eq]
  omega

theorem frameWord_toNat (b : Byte) (v : Value) :
    (frameWord b v).toNat = b.toNat * 2 ^ 16 + v.toNat := by
  rw [frameWord, BitVec.toNat_append, ← Nat.shiftLeft_add_eq_or_of_lt v.isLt, Nat.shiftLeft_eq]

theorem opField_toNat (w : Word24) : (opField w).toNat = w.toNat / 2 ^ 20 % 2 ^ 4 := by
  rw [opField, BitVec.extractLsb'_toNat, Nat.shiftRight_eq_div_pow]

theorem chField_toNat (w : Word24) : (chField w).toNat = w.toNat / 2 ^ 16 % 2 ^ 4 := by
  rw [chField, BitVec.extractLsb'_toNat, Nat.shiftRight_eq_div_pow]

theorem immField_toNat (w : Word24) : (immField w).toNat = w.toNat % 2 ^ 16 := by
  simp [immField, BitVec.extractLsb'_toNat]

theorem headField_toNat (w : Word24) : (headField w).toNat = w.toNat / 2 ^ 16 % 2 ^ 8 := by
  rw [headField, BitVec.extractLsb'_toNat, Nat.shiftRight_eq_div_pow]

/-! ### Fields of a word built from fields -/

@[simp] theorem opField_reqWord (op ch : BitVec 4) (imm : BitVec 16) :
    opField (reqWord op ch imm) = op := by
  apply BitVec.eq_of_toNat_eq
  rw [opField_toNat, reqWord_toNat]
  have := op.isLt
  have := ch.isLt
  have := imm.isLt
  omega

@[simp] theorem chField_reqWord (op ch : BitVec 4) (imm : BitVec 16) :
    chField (reqWord op ch imm) = ch := by
  apply BitVec.eq_of_toNat_eq
  rw [chField_toNat, reqWord_toNat]
  have := ch.isLt
  have := imm.isLt
  omega

@[simp] theorem immField_reqWord (op ch : BitVec 4) (imm : BitVec 16) :
    immField (reqWord op ch imm) = imm := by
  apply BitVec.eq_of_toNat_eq
  rw [immField_toNat, reqWord_toNat]
  have := imm.isLt
  omega

@[simp] theorem headField_frameWord (b : Byte) (v : Value) : headField (frameWord b v) = b := by
  apply BitVec.eq_of_toNat_eq
  rw [headField_toNat, frameWord_toNat]
  have := b.isLt
  have := v.isLt
  omega

@[simp] theorem immField_frameWord (b : Byte) (v : Value) : immField (frameWord b v) = v := by
  apply BitVec.eq_of_toNat_eq
  rw [immField_toNat, frameWord_toNat]
  have := v.isLt
  omega

/-! ### A word is its fields -/

theorem reqWord_fields (w : Word24) : reqWord (opField w) (chField w) (immField w) = w := by
  apply BitVec.eq_of_toNat_eq
  rw [reqWord_toNat, opField_toNat, chField_toNat, immField_toNat]
  have := w.isLt
  omega

theorem frameWord_fields (w : Word24) : frameWord (headField w) (immField w) = w := by
  apply BitVec.eq_of_toNat_eq
  rw [frameWord_toNat, headField_toNat, immField_toNat]
  have := w.isLt
  omega

/-! ### Channel ids -/

@[simp] theorem channelOfId_channelId (c : Channel) : channelOfId (channelId c).toNat = some c := by
  cases c <;> rfl

/-- An id names at most one channel. -/
theorem channelId_of_channelOfId {n : Nat} {c : Channel} (h : channelOfId n = some c) :
    n = (channelId c).toNat := by
  unfold channelOfId at h
  split at h <;> first | (cases h; rfl) | simp at h

/-- The ids from 5 on name no channel. -/
theorem channelOfId_none {n : Nat} : channelOfId n = none ↔ 5 ≤ n := by
  rcases n with _ | _ | _ | _ | _ | n <;> simp [channelOfId]

end Sys2Proof
end

