-- ==== Sys2Proof/Laws/PerInstr.lean ====
section
/-!
SUPPORT. Statements made per instruction, as syntax. Family `RowBits`: an instruction's word has the
fixed bits of its row of spec/opcode_table.json.
-/

namespace Sys2Proof.Laws

/-- The fixed bits of a row: bits `hi` down to `lo` are `value`. -/
structure RowFixed where
  hi : Nat
  lo : Nat
  value : Nat
deriving DecidableEq, Repr

/-- The `fixed` entry of the instruction's row in spec/opcode_table.json. -/
def rowFixed : Instr → RowFixed
  | .frameA _ => ⟨23, 16, 16⟩
  | .frameB _ => ⟨23, 16, 18⟩
  | .frameC _ => ⟨23, 16, 20⟩
  | .frameD _ => ⟨23, 16, 22⟩
  | .frameAll _ => ⟨23, 16, 23⟩
  | .enable => ⟨23, 0, 1048576⟩
  | .writeBlocking _ _ => ⟨23, 20, 2⟩
  | .prepareTransfer _ _ => ⟨23, 20, 3⟩
  | .fromIndex _ => ⟨23, 16, 64⟩
  | .encode _ _ => ⟨23, 20, 5⟩
  | .construct => ⟨0, 0, 1⟩

/-- The number a word in its space is. -/
def wordNumber : CodeWord → Nat
  | .req24 w => w.toNat
  | .frame24 w => w.toNat
  | .rst1 b => b.toNat

/-- Bits `hi` down to `lo` of a number are the row's. -/
def RowFixed.fits (r : RowFixed) (n : Nat) : Prop := n / 2 ^ r.lo % 2 ^ (r.hi + 1 - r.lo) = r.value

namespace RowBits

/-- A well-formed instruction's word has its row's fixed bits. -/
def Statement (i : Instr) : Prop := WellFormed i → (rowFixed i).fits (wordNumber (Sys2Proof.encode i))

theorem frameRow {b : Byte} {v : Value} :
    RowFixed.fits ⟨23, 16, b.toNat⟩ (wordNumber (.frame24 (frameWord b v))) := by
  have hb := b.isLt
  have hv := v.isLt
  simp only [RowFixed.fits, wordNumber, frameWord_toNat]
  omega

theorem channelRow {op ch : BitVec 4} {imm : BitVec 16} :
    RowFixed.fits ⟨23, 20, op.toNat⟩ (wordNumber (.req24 (reqWord op ch imm))) := by
  have ho := op.isLt
  have hc := ch.isLt
  have hi := imm.isLt
  simp only [RowFixed.fits, wordNumber, reqWord_toNat]
  omega

theorem frameA (v : Value) : Statement (.frameA v) := fun _ => frameRow (b := 0x10#8)
theorem frameB (v : Value) : Statement (.frameB v) := fun _ => frameRow (b := 0x12#8)
theorem frameC (v : Value) : Statement (.frameC v) := fun _ => frameRow (b := 0x14#8)
theorem frameD (v : Value) : Statement (.frameD v) := fun _ => frameRow (b := 0x16#8)
theorem frameAll (v : Value) : Statement (.frameAll v) := fun _ => frameRow (b := 0x17#8)
theorem enable : Statement .enable := fun _ => rfl
theorem writeBlocking (c : Channel) (v : Value) : Statement (.writeBlocking c v) :=
  fun _ => channelRow (op := 2#4)
theorem prepareTransfer (c : Channel) (v : Value) : Statement (.prepareTransfer c v) :=
  fun _ => channelRow (op := 3#4)
theorem fromIndex (i : Nat) : Statement (.fromIndex i) := by
  intro _
  have hi := (BitVec.ofNat 16 i).isLt
  simp only [rowFixed, RowFixed.fits, wordNumber, Sys2Proof.encode, reqWord_toNat]
  norm_num
  omega
theorem encode (c : Channel) (v : Value) : Statement (.encode c v) := fun _ => channelRow (op := 5#4)
theorem construct : Statement .construct := fun _ => rfl

end RowBits

end Sys2Proof.Laws
end

