-- ==== Sys2Proof/Tests/Slice0.lean ====
section
/-!
SUPPORT. Small tests, their expected results from spec/95_test_vectors.md and 30_encoding.md (each
names its vector), and for every statement with hypotheses a witness that meets them.
-/

open Sys2Proof Sys2Proof.Machine

namespace Sys2Proof.Tests

/-! ### Helpers -/

/-- A block at rest, with what its collaborators will answer. -/
def wired (on : Bool) (lines : List LineAnswer) (b : BusAnswer) (i : InitiatorAnswer) : State :=
  { State.reset with
    active := on, lineEN := .high, lineSEL := .high, lineRST := .low,
    lineReplies := lines.map .answer, busReplies := [.answer b], initiatorReplies := [.answer i] }

/-- An enabled block whose next seven drives, bus write and initiator call go well. -/
def allOk : State := wired true (List.replicate 7 .ok) .ok .sent

/-- A block in the middle of `write_blocking(Channel::B, 0x1234)`, before its bus write. -/
def midWrite : State :=
  { wired true [.ok, .ok] .ok .sent with
    seq := .write4, opCh := some .B, opVal := some 0x1234#16,
    frame := some ⟨0x12#8, 0x12#8, 0x34#8⟩ }

/-- A block whose collaborators never return. -/
def dead : State :=
  { State.reset with
    active := true, lineReplies := [.never], busReplies := [.never], initiatorReplies := [.never] }

/-- A block with a request presented. -/
def presented (w : Word24) : State := { State.reset with inputs := [.request w] }

/-- What the vectors compare: `active` and the latches. -/
def pins (o : Result) : Option (Bool × Latch × Latch × Latch) :=
  match o with
  | .next s => some (s.active, s.lineEN, s.lineSEL, s.lineRST)
  | .fault _ => none
  | .refused _ => none

/-- What the vectors compare: the trace and the responses. -/
def outputs (o : Result) : Option (List Event × List Response) :=
  match o with
  | .next s => some (s.trace, s.responses)
  | .fault _ => none
  | .refused _ => none

/-- What the decoder of frames has found. -/
def found (o : Result) : Option (List (Option (Channel × Value))) :=
  match o with
  | .next s => some s.verdicts
  | .fault _ => none
  | .refused _ => none

/-- The refusal, if it is one. -/
def refusal (o : Result) : Option Refusal :=
  match o with
  | .next _ => none
  | .fault _ => none
  | .refused r => some r

/-! ### Well-formed instructions (INDEX_BITS of 00_scope.md section 4) -/

theorem test_wellFormed_refuses_an_index_of_17_bits : ¬ WellFormed (.fromIndex 65536) := by decide
theorem test_wellFormed_takes_the_largest_index : WellFormed (.fromIndex 65535) := by decide

/-! ### Decoding: words written out from 30_encoding.md rules R54, R56, R57, R64 -/

theorem test_decode_enable : decode (.req24 0b0001_0000_00000000_00000000#24) = .ok .enable := by
  decide
theorem test_decode_writeBlocking :
    decode (.req24 0b0010_0100_00000000_00000000#24) = .ok (.writeBlocking .All 0#16) := by decide
theorem test_decode_prepareTransfer :
    decode (.req24 0b0011_0001_00010010_00110100#24) = .ok (.prepareTransfer .B 0x1234#16) := by
  decide
theorem test_decode_fromIndex :
    decode (.req24 0b0100_0000_00000000_00000100#24) = .ok (.fromIndex 4) := by decide
theorem test_decode_encode :
    decode (.req24 0b0101_0100_11111111_11111111#24) = .ok (.encode .All 0xFFFF#16) := by decide
theorem test_decode_frameA :
    decode (.frame24 0b0001_0000_00000000_00000000#24) = .ok (.frameA 0#16) := by decide
theorem test_decode_frameB :
    decode (.frame24 0b0001_0010_00010010_00110100#24) = .ok (.frameB 0x1234#16) := by decide
theorem test_decode_frameC :
    decode (.frame24 0b0001_0100_10101010_10101010#24) = .ok (.frameC 0xAAAA#16) := by decide
theorem test_decode_frameD :
    decode (.frame24 0b0001_0110_11111111_11111111#24) = .ok (.frameD 0xFFFF#16) := by decide
theorem test_decode_frameAll :
    decode (.frame24 0b0001_0111_11111111_11111111#24) = .ok (.frameAll 0xFFFF#16) := by decide
theorem test_decode_construct : decode (.rst1 1#1) = .ok .construct := by decide

/-- Vectors V-R1, V-R3, V-R4, V-R6, V-R7, V-R9, V-R11, V-R13. -/
theorem test_decode_refused_words :
    decode (.req24 0x000000#24) = .error .reservedOperation ∧
    decode (.req24 0x100001#24) = .error .mustBeZero ∧
    decode (.req24 0x110000#24) = .error .mustBeZero ∧
    decode (.req24 0x250000#24) = .error .noSuchChannel ∧
    decode (.req24 0x2F1234#24) = .error .noSuchChannel ∧
    decode (.req24 0x600000#24) = .error .reservedOperation ∧
    decode (.req24 0x410000#24) = .error .mustBeZero ∧
    decode (.req24 0xFFFFFF#24) = .error .reservedOperation := by decide

/-- Vectors V-F4 to V-F7. -/
theorem test_decode_frames_never_emitted :
    decode (.frame24 0x110000#24) = .error .frameNeverEmitted ∧
    decode (.frame24 0x180000#24) = .error .frameNeverEmitted ∧
    decode (.frame24 0x021234#24) = .error .frameNeverEmitted ∧
    decode (.frame24 0x221234#24) = .error .frameNeverEmitted := by decide

/-- The words of V-R2, V-F1, V-F2 and the reset input as table words (assumption log 12). -/
theorem test_decodeTableWord :
    decodeTableWord 24 0x100000 = some .enable ∧
    decodeTableWord 24 0x121234 = some (.frameB 0x1234#16) ∧
    decodeTableWord 24 0x17FFFF = some (.frameAll 0xFFFF#16) ∧
    decodeTableWord 8 1 = some .construct ∧ decodeTableWord 8 0 = none ∧
    decodeTableWord 24 0x600000 = none := by decide

/-! ### Instructions -/

/-- V-E19 (S6): the frame of B and 0x1234, in a block not enabled. -/
theorem test_encode_B : outputs (exec (.encode .B 0x1234#16) State.reset) =
    some ([], [.ok 0x121234#24]) := by decide

/-- V-E48 (S7): the frame of All and 0xFFFF, in an enabled block. -/
theorem test_encode_All : outputs (exec (.encode .All 0xFFFF#16) allOk) =
    some ([], [.ok 0x17FFFF#24]) := by decide

/-- V-E10: the frame, recognised; no event and no response. -/
theorem test_frameA : encode (.frameA 0xABCD#16) = .frame24 0x10ABCD#24 ∧
    found (exec (.frameA 0xABCD#16) State.reset) = some [some (.A, 0xABCD#16)] ∧
    outputs (exec (.frameA 0xABCD#16) State.reset) = some ([], []) := by decide

/-- V-F1: the frame, recognised; no event and no response. -/
theorem test_frameB : encode (.frameB 0x1234#16) = .frame24 0x121234#24 ∧
    found (exec (.frameB 0x1234#16) State.reset) = some [some (.B, 0x1234#16)] ∧
    outputs (exec (.frameB 0x1234#16) State.reset) = some ([], []) := by decide

/-- V-E23: the frame, recognised; no event and no response. -/
theorem test_frameC : encode (.frameC 0x00FF#16) = .frame24 0x1400FF#24 ∧
    found (exec (.frameC 0x00FF#16) State.reset) = some [some (.C, 0x00FF#16)] ∧
    outputs (exec (.frameC 0x00FF#16) State.reset) = some ([], []) := by decide

/-- V-E37: the frame, recognised; no event and no response. -/
theorem test_frameD : encode (.frameD 0xFF00#16) = .frame24 0x16FF00#24 ∧
    found (exec (.frameD 0xFF00#16) State.reset) = some [some (.D, 0xFF00#16)] ∧
    outputs (exec (.frameD 0xFF00#16) State.reset) = some ([], []) := by decide

/-- V-F2: the frame, recognised; no event and no response. -/
theorem test_frameAll : encode (.frameAll 0xFFFF#16) = .frame24 0x17FFFF#24 ∧
    found (exec (.frameAll 0xFFFF#16) State.reset) = some [some (.All, 0xFFFF#16)] ∧
    outputs (exec (.frameAll 0xFFFF#16) State.reset) = some ([], []) := by decide

/-- V-I4: the last valid index. -/
theorem test_fromIndex_last_valid : outputs (exec (.fromIndex 3) State.reset) =
    some ([], [.ok 3#24]) := by decide

/-- V-I5, V-I9: All is not returned, and the whole index is tested. -/
theorem test_fromIndex_invalid :
    outputs (exec (.fromIndex 4) State.reset) = some ([], [.invalidIndex]) ∧
    outputs (exec (.fromIndex 256) State.reset) = some ([], [.invalidIndex]) := by decide

/-- V-L2: the lines are not touched. -/
theorem test_construct_leaves_the_lines : pins (exec .construct allOk) =
    some (false, .high, .high, .low) := by decide

/-- V-L1, V-L3: no event and no response. -/
theorem test_construct_answers_nothing : outputs (exec .construct allOk) = some ([], []) := by decide

/-- V-L4: the nine events, and the levels after. -/
theorem test_enable_all_ok :
    let s := { State.reset with lineReplies := List.replicate 7 (.answer .ok) }
    pins (exec .enable s) = some (true, .high, .high, .low) ∧
    outputs (exec .enable s) = some
      ([.line .EN .low, .line .SEL .low, .line .SEL .high, .line .EN .high, .line .RST .low, .wait,
        .line .RST .high, .wait, .line .RST .low], [.ok 0#24]) := by decide

/-- V-L6, one of its levels: all seven drives fail and leave the line high. -/
theorem test_enable_all_fail :
    pins (exec .enable (wired false (List.replicate 7 (.fail .high)) .ok .sent)) =
      some (true, .high, .high, .high) := by decide

/-- V-T1 (S6), and V-T2: nothing before `ENABLE`. -/
theorem test_writeBlocking_ok_and_not_enabled :
    outputs (exec (.writeBlocking .B 0x1234#16) allOk) = some
      ([.line .EN .low, .line .SEL .low, .bus ⟨0x12#8, 0x12#8, 0x34#8⟩, .line .SEL .high,
        .line .EN .high], [.ok 0#24]) ∧
    outputs (exec (.writeBlocking .B 0x1234#16) State.reset) = some ([], [.ok 0#24]) := by decide

/-- V-T3 and V-T4: a bus failure under both values of `DEASSERT_ON_BUS_ERROR`. -/
theorem test_writeBlocking_bus_fails :
    let s := wired true (List.replicate 4 .ok) .fail .sent
    let q : Params := ⟨0#4, 4#4, 6#4, 1000, false, false⟩
    outputs (exec (.writeBlocking .All 0xFFFF#16) s) = some
      ([.line .EN .low, .line .SEL .low, .bus ⟨0x17#8, 0xFF#8, 0xFF#8⟩, .line .SEL .high,
        .line .EN .high], [.busWriteError]) ∧
    pins (exec (.writeBlocking .All 0xFFFF#16) s) = some (true, .high, .high, .low) ∧
    outputs (s.writeBlockingWith q .All 0xFFFF#16) = some
      ([.line .EN .low, .line .SEL .low, .bus ⟨0x17#8, 0xFF#8, 0xFF#8⟩], [.busWriteError]) ∧
    pins (s.writeBlockingWith q .All 0xFFFF#16) = some (true, .low, .low, .low) := by decide

/-- V-T8, one of its levels: all four drives fail, the initiator is called all the same. -/
theorem test_prepareTransfer_lines_fail :
    let s := wired true (List.replicate 4 (.fail .low)) .ok .sent
    outputs (exec (.prepareTransfer .B 0x8000#16) s) = some
      ([.line .EN .low, .line .SEL .low, .init ⟨0x12#8, 0x80#8, 0x00#8⟩, .line .SEL .high,
        .line .EN .high], [.ok 0#24]) ∧
    pins (exec (.prepareTransfer .B 0x8000#16) s) = some (true, .low, .low, .low) := by decide

/-- V-T13: a transfer only begun stays pending. -/
theorem test_prepareTransfer_deferred :
    (match exec (.prepareTransfer .C 0x7FFF#16) (wired true [.ok, .ok, .ok, .ok] .ok .deferred) with
      | .next s => s.pending
      | .fault _ => []
      | .refused _ => []) = [⟨0x14#8, 0x7F#8, 0xFF#8⟩] := by decide

/-! ### The step -/

/-- The reset, the handshake and the write of program P0, each as the word presented first. -/
theorem test_step_runs_the_presented_word :
    pins (step (allOk.withFetchWord 8 1)) = some (false, .high, .high, .low) ∧
    pins (step (({ State.reset with lineReplies := allOk.lineReplies } : State).withFetchWord 24
      0x100000)) = some (true, .high, .high, .low) ∧
    outputs (step (allOk.withFetchWord 24 0x24FFFF)) = some
      ([.line .EN .low, .line .SEL .low, .bus ⟨0x17#8, 0xFF#8, 0xFF#8⟩, .line .SEL .high,
        .line .EN .high], [.ok 0#24]) := by decide

/-- V-F1 and V-F4 at the decoder of frames, the first beside a busy block; and 30_encoding.md rule R50:
as a request V-F1's word is refused. -/
theorem test_step_of_frame_words :
    found (step (midWrite.withFetchWord 24 0x121234)) = some [some (.B, 0x1234#16)] ∧
    outputs (step (midWrite.withFetchWord 24 0x121234)) = some ([], []) ∧
    found (step { State.reset with inputs := [.frameSeen 0x110000#24] }) = some [none] ∧
    refusal (step (presented 0x121234#24)) = some (.badWord .mustBeZero) := by decide

/-- 70_reset_and_hazards.md rule R165: the busy block does its bus write and leaves the request. -/
theorem test_step_of_a_busy_block :
    outputs (step { midWrite with inputs := [.request 0x100000#24] }) =
      some ([.bus ⟨0x12#8, 0x12#8, 0x34#8⟩], []) := by decide

/-! ### Witnesses: the hypotheses of each statement, met -/

theorem reset_ready : State.reset.Ready := ⟨rfl, rfl, rfl, rfl, rfl, rfl, rfl⟩

theorem wired_ready (on : Bool) (l : List LineAnswer) (b : BusAnswer) (i : InitiatorAnswer) :
    (wired on l b i).Ready := ⟨rfl, rfl, rfl, rfl, rfl, rfl, rfl⟩

theorem midWrite_consistent : midWrite.Consistent specParams :=
  ⟨⟨rfl, rfl, rfl, .B, 0x1234#16, rfl, rfl, by decide⟩, by decide⟩

theorem reset_consistent : State.reset.Consistent specParams :=
  ⟨⟨rfl, rfl, rfl, rfl, rfl⟩, by decide⟩

theorem test_witness_DecodeOfEncodeIsTheInstruction :
    WellFormed (.fromIndex 65535) ∧ WellFormed (.frameA 0#16) ∧ WellFormed .construct := by decide

theorem test_witness_EncodeOfDecodeIsTheWord :
    decode (.req24 0x54FFFF#24) = .ok (.encode .All 0xFFFF#16) ∧
    decode (.frame24 0x17FFFF#24) = .ok (.frameAll 0xFFFF#16) ∧
    decode (.rst1 1#1) = .ok .construct := by decide

/-- Each clause at the ends of its range: `op` 0, 6 and 15; `ch` 5 and 15; a set bit in each field. -/
theorem test_witness_WordsOfNoOperationAreRefused :
    (presented 0x000000#24).seq = .idle ∧
    (presented 0x000000#24).inputs.head? = some (.request 0x000000#24) ∧
    opField 0x000000#24 = 0x0#4 ∧ 0x6 ≤ (opField 0x600000#24).toNat ∧
    0x6 ≤ (opField 0xFFFFFF#24).toNat ∧
    (opField 0x250000#24 = 0x2#4 ∧ 5 ≤ (chField 0x250000#24).toNat) ∧
    (opField 0x350000#24 = 0x3#4 ∧ 5 ≤ (chField 0x350000#24).toNat) ∧
    (opField 0x5F0000#24 = 0x5#4 ∧ 5 ≤ (chField 0x5F0000#24).toNat) ∧
    (opField 0x110000#24 = 0x1#4 ∧ chField 0x110000#24 ≠ 0#4) ∧
    (opField 0x100001#24 = 0x1#4 ∧ immField 0x100001#24 ≠ 0#16) ∧
    (opField 0x410000#24 = 0x4#4 ∧ chField 0x410000#24 ≠ 0#4) := by decide

theorem frameNumber_head (f : Frame) : (frameNumber f).toNat / 65536 = f.b0.toNat := by
  have h1 := f.b1.isLt
  have h2 := f.b2.isLt
  rw [frameNumber, BitVec.toNat_append, BitVec.toNat_append, ← Nat.shiftLeft_add_eq_or_of_lt h2,
    ← Nat.shiftLeft_add_eq_or_of_lt h1, Nat.shiftLeft_eq, Nat.shiftLeft_eq]
  omega

/-- V-F4: a word that is the frame of no channel and value; and V-F1, one that is. -/
theorem test_witness_FrameRowsAreExactlyTheEncodings :
    (∀ c v, (0x110000#24 : Word24) ≠ frameNumber (encodeFrame specParams c v)) ∧
    (0x121234#24 : Word24) = frameNumber (encodeFrame specParams .B 0x1234#16) := by
  refine ⟨fun c v h => ?_, by decide⟩
  have h1 := congrArg (fun w : Word24 => w.toNat / 65536) h
  simp only [frameNumber_head] at h1
  change _ = (framePrefix ||| (sel specParams c).setWidth 8).toNat at h1
  cases c <;> exact absurd h1 (by decide)

/-- Each space of the host, and a frame word of each clause: V-F1 and V-F4. -/
theorem test_witness_FrameWordsAreNeverRequests :
    decode (.req24 0x100000#24) = .ok .enable ∧ decode (.rst1 1#1) = .ok .construct ∧
    ({ midWrite with inputs := [.frameSeen 0x121234#24] } : State).inputs =
      .frameSeen 0x121234#24 :: [] ∧
    (0x121234#24 : Word24) = frameNumber (encodeFrame specParams .B 0x1234#16) ∧
    ∀ c v, (0x110000#24 : Word24) ≠ frameNumber (encodeFrame specParams c v) :=
  ⟨by decide, by decide, rfl, by decide, test_witness_FrameRowsAreExactlyTheEncodings.1⟩

theorem test_witness_FrameEncodingIsInjective :
    encodeFrame ⟨0#4, 4#4, 6#4, 1000, true, false⟩ .D 0xFFFF#16 =
      encodeFrame ⟨0#4, 4#4, 6#4, 1000, true, false⟩ .D 0xFFFF#16 ∧
    paramsAdmitted ⟨0#4, 4#4, 6#4, 1000, true, false⟩ := by decide

/-- For `EncodeAnswersTheFrame`, `FromIndexAnswersOrFaults`: both states of the block. -/
theorem test_witness_ready_operations : State.reset.Ready ∧ allOk.Ready :=
  ⟨reset_ready, wired_ready ..⟩

theorem test_witness_IndexMapIsOntoTheFourChannels :
    Channel.D ≠ .All ∧ channelOfIndex 3 = some .D := by decide

theorem test_witness_ConstructLeavesUninitialized : allOk.seq = .idle := rfl

theorem test_witness_ConstructPerformsNoIO : exec .construct allOk = .next allOk.construct := rfl

theorem test_witness_ResetDuringAnOperationIsRefused :
    midWrite.seq ≠ .idle ∧
    ({ midWrite with inputs := [.reset 1#1] } : State).inputs.head? =
      some (.reset 1#1) := by decide

theorem allOk_linesReturn : allOk.LinesReturn 7 := by
  unfold State.LinesReturn
  decide

/-- Drives that fail return all the same. -/
theorem test_witness_EnableCompletes :
    allOk.Ready ∧ allOk.LinesReturn 7 ∧
    (wired false (List.replicate 7 (.fail .low)) .ok .sent).LinesReturn 7 := by
  refine ⟨wired_ready .., allOk_linesReturn, ?_⟩
  unfold State.LinesReturn
  decide

theorem test_witness_EnableLatchesFollowTheAnswers :
    let s := wired false [.ok, .ok, .ok, .ok, .ok, .fail .low, .fail .high, .ok] .ok .sent
    s.Ready ∧ s.lineReplies = .answer .ok :: .answer .ok :: .answer .ok :: .answer .ok ::
      .answer .ok :: .answer (.fail .low) :: .answer (.fail .high) :: [.answer .ok] :=
  ⟨wired_ready .., rfl⟩

theorem test_witness_EnableOnObeyingLines : allOk.Ready ∧ allOk.LinesObey 7 := ⟨wired_ready .., rfl⟩

/-- For `EnableEventsComeInOrder` too: at the ninth, the tenth and a later step. -/
theorem test_witness_ActiveIsSetAtTheTenthStep :
    (∃ t, (allOk.goto .enable1).runSteps specParams 9 = .next t) ∧
    (∃ t, (allOk.goto .enable1).runSteps specParams 10 = .next t) ∧
    (∃ t, (allOk.goto .enable1).runSteps specParams 11 = .next t) := ⟨⟨_, rfl⟩, ⟨_, rfl⟩, ⟨_, rfl⟩⟩

theorem test_witness_TransfersBeforeEnableDoNothing :
    State.reset.Ready ∧ State.reset.active = false := ⟨reset_ready, rfl⟩

theorem allOk_linesReturn4 : allOk.LinesReturn 4 := by
  unfold State.LinesReturn
  decide

theorem test_witness_WriteBlockingSendsTheFrame :
    allOk.Ready ∧ allOk.active = true ∧ allOk.LinesReturn 4 ∧ allOk.busReply = .answer .ok :=
  ⟨wired_ready .., rfl, allOk_linesReturn4, rfl⟩

theorem test_witness_WriteBlockingAfterABusFailure :
    let s := wired true [.ok, .fail .low, .ok, .fail .low] .fail .sent
    s.Ready ∧ s.active = true ∧ s.LinesReturn 4 ∧ s.busReply = .answer .fail := by
  refine ⟨wired_ready .., rfl, ?_, rfl⟩
  unfold State.LinesReturn
  decide

/-- One set of parameters for each of the two clauses. -/
theorem test_witness_BusFailureUnderBothReadings :
    let s := wired true [.ok, .ok, .ok, .ok] .fail .sent
    s.Ready ∧ s.active = true ∧ s.LinesObey 4 ∧ s.busReply = .answer .fail ∧
    (⟨0#4, 4#4, 6#4, 1000, true, false⟩ : Params).deassertOnBusError = true ∧
    (⟨0#4, 4#4, 6#4, 1000, false, false⟩ : Params).deassertOnBusError = false :=
  ⟨wired_ready .., rfl, rfl, rfl, rfl, rfl⟩

/-- Both answers of the initiator. -/
theorem test_witness_PrepareTransferCallsTheInitiator :
    allOk.Ready ∧ allOk.active = true ∧ allOk.LinesReturn 4 ∧
    allOk.initiatorReply = .answer .sent ∧
    (wired true [.ok, .ok, .ok, .ok] .ok .deferred).initiatorReply = .answer .deferred :=
  ⟨wired_ready .., rfl, allOk_linesReturn4, rfl, rfl⟩

/-- Both transfers. -/
theorem test_witness_TransferLatchesFollowTheAnswers :
    let s := wired true [.ok, .fail .high, .ok, .fail .low] .ok .sent
    s.Ready ∧ s.active = true ∧
    s.lineReplies = .answer .ok :: .answer (.fail .high) :: .answer .ok :: .answer (.fail .low) :: [] ∧
    (∃ t, exec (.writeBlocking .B 0x1234#16) s = .next t) ∧
    (∃ t, exec (.prepareTransfer .B 0x1234#16) s = .next t) :=
  ⟨wired_ready .., rfl, rfl, ⟨_, rfl⟩, ⟨_, rfl⟩⟩

/-- Both transfers, enabled or not. -/
theorem test_witness_TransfersKeepTheHeldState :
    allOk.Ready ∧ State.reset.Ready ∧
    (∃ t, exec (.writeBlocking .A 0#16) allOk = .next t) ∧
    (∃ t, exec (.prepareTransfer .A 0#16) allOk = .next t) ∧
    (∃ t, exec (.writeBlocking .A 0#16) State.reset = .next t) :=
  ⟨wired_ready .., reset_ready, ⟨_, rfl⟩, ⟨_, rfl⟩, ⟨_, rfl⟩⟩

/-- One for each of the three clauses. -/
theorem test_witness_WriteOutcomeIsTheBusAnswer :
    (∃ t, exec (.writeBlocking .B 1#16) allOk = .next t) ∧ allOk.active = true ∧
    allOk.busReply = .answer .ok ∧
    (∃ t, exec (.writeBlocking .B 1#16) (wired true [.ok, .ok, .ok, .ok] .fail .sent) = .next t) ∧
    (wired true [.ok, .ok, .ok, .ok] .fail .sent).busReply = .answer .fail ∧
    (∃ t, exec (.writeBlocking .B 1#16) State.reset = .next t) ∧ State.reset.active = false :=
  ⟨⟨_, rfl⟩, rfl, rfl, ⟨_, rfl⟩, rfl, ⟨_, rfl⟩, rfl⟩

/-- For every statement whose hypothesis is that `exec i` gives a next state, over all `i`
(`BusWritesAreTheActiveWrites`, `InitiatorCallsAreTheActivePrepares`,
`ActiveIsWrittenByTwoOperations`, `EveryOperationAnswersByTheTable`,
`BusWriteErrorOnlyFromAFailedWrite`, `OperationsEndReady`, `ResetLineIsDrivenByEnableOnly`,
`WaitsAreTwoPerEnable`): each instruction has one, from a ready, enabled block. -/
theorem test_witness_every_instruction_has_a_next_state :
    allOk.Ready ∧ allOk.active = true ∧
    (∃ t, exec (.frameA 0#16) allOk = .next t) ∧ (∃ t, exec (.frameB 0#16) allOk = .next t) ∧
    (∃ t, exec (.frameC 0#16) allOk = .next t) ∧ (∃ t, exec (.frameD 0#16) allOk = .next t) ∧
    (∃ t, exec (.frameAll 0#16) allOk = .next t) ∧ (∃ t, exec .enable allOk = .next t) ∧
    (∃ t, exec (.writeBlocking .All 0#16) allOk = .next t) ∧
    (∃ t, exec (.prepareTransfer .All 0#16) allOk = .next t) ∧
    (∃ t, exec (.fromIndex 4) allOk = .next t) ∧ (∃ t, exec (.encode .A 0#16) allOk = .next t) ∧
    (∃ t, exec .construct allOk = .next t) :=
  ⟨wired_ready .., rfl, ⟨_, rfl⟩, ⟨_, rfl⟩, ⟨_, rfl⟩, ⟨_, rfl⟩, ⟨_, rfl⟩, ⟨_, rfl⟩, ⟨_, rfl⟩, ⟨_, rfl⟩,
    ⟨_, rfl⟩, ⟨_, rfl⟩, ⟨_, rfl⟩⟩

/-- `ENABLE` and `CONSTRUCT` are no transfers; a halted block gives a fault, a busy one a refusal. -/
theorem test_witness_ActiveIsReadByTheTransfersOnly :
    (∀ c v, Instr.enable ≠ .writeBlocking c v) ∧ (∀ c v, Instr.enable ≠ .prepareTransfer c v) ∧
    (∃ t, exec .enable allOk = .next t) ∧ exec .enable dead = .fault (.neverReturned .line) ∧
    exec .enable midWrite = .refused .blockBusy :=
  ⟨by simp, by simp, ⟨_, rfl⟩, rfl, rfl⟩

/-- A write on lines that obey, and a line side whose every drive fails. -/
theorem test_witness_LineAnswersAreDiscarded :
    (∃ t, exec (.writeBlocking .B 1#16) allOk = .next t) ∧
    (wired true (List.replicate 7 (.fail .low)) .ok .sent).LinesReturn 7 := by
  refine ⟨⟨_, rfl⟩, ?_⟩
  unfold State.LinesReturn
  decide

/-- One for each of the three clauses. -/
theorem test_witness_PendingGrowsByDeferredCallsOnly :
    (∃ t, exec .construct allOk = .next t) ∧
    (∃ t, exec (.prepareTransfer .C 1#16) (wired true [.ok, .ok, .ok, .ok] .ok .deferred) = .next t) ∧
    (wired true [.ok, .ok, .ok, .ok] .ok .deferred).initiatorReply = .answer .deferred ∧
    (∃ t, exec (.prepareTransfer .C 1#16) allOk = .next t) ∧ allOk.active = true ∧
    allOk.initiatorReply = .answer .sent :=
  ⟨⟨_, rfl⟩, ⟨_, rfl⟩, rfl, ⟨_, rfl⟩, rfl, rfl⟩

/-- Lines, bus and initiator that never return. -/
theorem test_witness_CallsThatNeverReturnHaveNoFinalState :
    dead.Ready ∧ dead.active = true ∧ ¬ dead.LinesReturn 7 ∧ ¬ dead.LinesReturn 4 ∧
    ¬ dead.BusReturns ∧ ¬ dead.InitiatorReturns := by
  refine ⟨⟨rfl, rfl, rfl, rfl, rfl, rfl, rfl⟩, rfl, ?_, ?_, fun h => h rfl, fun h => h rfl⟩ <;>
    unfold State.LinesReturn <;> decide

theorem enable_isOperation : IsOperation .enable := fun c _ => by cases c <;> simp [frameRow]

theorem test_witness_AbortReadingHaltsUntilConstruct :
    State.reset.Ready ∧ (⟨0#4, 4#4, 6#4, 1000, true, true⟩ : Params).abortOnInvalidIndex = true ∧
    4 ≤ 4 ∧ IsOperation .enable ∧ Instr.enable ≠ .construct :=
  ⟨reset_ready, rfl, le_refl 4, enable_isOperation, by decide⟩

/-- One for each of the two clauses. -/
theorem test_witness_StepRunsTheDecodedInstruction :
    (presented 0x400004#24).seq = .idle ∧
    (presented 0x400004#24).inputs = .request 0x400004#24 :: [] ∧
    decode (.req24 0x400004#24) = .ok (.fromIndex 4) ∧
    ({ allOk with inputs := [.reset 1#1] } : State).seq = .idle ∧
    ({ allOk with inputs := [.reset 1#1] } : State).inputs = .reset 1#1 :: [] ∧
    decode (.rst1 1#1) = .ok .construct := by decide

/-- One for each of the three clauses. -/
theorem test_witness_StepWithoutAnInstruction :
    State.reset.seq = .idle ∧ State.reset.inputs = [] ∧
    ({ allOk with inputs := [.reset 0#1] } : State).inputs = .reset 0#1 :: [] ∧
    ({ allOk with inputs := [.frameLeft ⟨0x12#8, 0#8, 0#8⟩] } : State).inputs =
      .frameLeft ⟨0x12#8, 0#8, 0#8⟩ :: [] := by decide

/-- With a request presented and with none. -/
theorem test_witness_BusyBlockAcceptsNothing :
    midWrite.seq ≠ .idle ∧ IsOperation .enable ∧ Instr.enable ≠ .construct ∧ midWrite.inputs = [] ∧
    ({ midWrite with inputs := [.request 0x100000#24] } : State).inputs.head? =
      some (.request 0x100000#24) ∧
    (∃ t, step midWrite = .next t) :=
  ⟨by decide, enable_isOperation, by decide, rfl, rfl, ⟨_, rfl⟩⟩

theorem test_witness_SequencerGoesOneStepAtATime :
    midWrite.seq ≠ .idle ∧ ∃ t, midWrite.advance specParams = .next t := ⟨by decide, ⟨_, rfl⟩⟩

theorem test_witness_SequencerReachesIdle :
    midWrite.Consistent specParams ∧ midWrite.LinesReturn 7 ∧ midWrite.BusReturns ∧
    midWrite.InitiatorReturns := by
  refine ⟨midWrite_consistent, ?_, ?_, ?_⟩
  · unfold State.LinesReturn
    decide
  · unfold State.BusReturns
    decide
  · unfold State.InitiatorReturns
    decide

/-- For `StepsOnlyAppend`, `StepKeepsConsistency`, `StepKeepsEmittedFramesInTheRows`,
`StepNeverHalts`, `NoStepReadsAnEmptyLatch`: a step in the middle of a write, from a consistent state
that has emitted nothing. -/
theorem test_witness_steps_of_a_consistent_state :
    midWrite.Consistent specParams ∧ midWrite.EmitsOnlyRows ∧ midWrite.halted = false ∧
    ∃ t, step midWrite = .next t :=
  ⟨midWrite_consistent, ⟨fun _ h => absurd h List.not_mem_nil, fun _ h => absurd h List.not_mem_nil⟩,
    rfl, ⟨_, rfl⟩⟩

/-- One for the fall and one for each rise. -/
theorem test_witness_ActiveChangesOnlyInItsOperations :
    pins (step { allOk with inputs := [.reset 1#1] }) = some (false, .high, .high, .low) ∧
    allOk.active = true ∧
    pins (step { wired false (List.replicate 7 .ok) .ok .sent with
      inputs := [.request 0x100000#24] }) = some (true, .high, .high, .low) ∧
    State.reset.active = false ∧
    pins (step { State.reset with seq := .enable10 }) =
      some (true, .unknown, .unknown, .unknown) := by decide

/-- An enabled block at rest that a request finds, with lines that obey. -/
theorem test_witness_StepKeepsTheRestLevels :
    let s := { allOk with inputs := [.request 0x21FFFF#24] }
    s.Ready ∧ s.LinesObey 7 ∧ (s.active = true → s.AtRest) ∧
    (∃ t, step s = .next t ∧ t.active = true) :=
  ⟨⟨rfl, rfl, rfl, rfl, rfl, rfl, rfl⟩, rfl, fun _ => ⟨rfl, rfl, rfl⟩, ⟨_, rfl, rfl⟩⟩

end Sys2Proof.Tests
end

/-!
The family 10_state: what the sequencer position says of the transient latches, how the position moves,
and who reads and writes `active` and `pending` (10_state.md rules R10 to R21).

The idea: the three sequences are one table. `seqAction` says what the step at a position does,
`seqNext` where it goes, `seqHolds` which latches are held there. `advance_eq_act` and `latchesFit_iff`
tie the table to the model, and each invariant is then a case split over the nine kinds of step.
-/

namespace Sys2Proof.Machine

variable {p : Params} {s t u : State}

/-! ### The sequencer as a table -/

/-- The kinds of step of the three sequences (43_lifecycle.md rule R97, 44_transfer.md rules R111,
R119). -/
inductive SeqAction where
  /-- no operation runs -/
  | rest
  | drive (l : Line) (lvl : Level)
  | wait
  | build
  | write
  | initiate
  /-- the last step of `ENABLE` -/
  | activate
  /-- the last step of a write -/
  | report
  /-- the last step of a deferred transfer, a drive as well -/
  | close

/-- What the step at a position does. -/
def seqAction : Seq → SeqAction
  | .idle => .rest
  | .enable1 | .write2 | .prepare1 => .drive .EN .low
  | .enable2 | .write3 | .prepare2 => .drive .SEL .low
  | .enable3 | .write5 | .prepare5 => .drive .SEL .high
  | .enable4 | .write6 => .drive .EN .high
  | .enable5 | .enable9 => .drive .RST .low
  | .enable7 => .drive .RST .high
  | .enable6 | .enable8 => .wait
  | .write1 | .prepare3 => .build
  | .write4 => .write
  | .prepare4 => .initiate
  | .enable10 => .activate
  | .write7 => .report
  | .prepare6 => .close

/-- Where a step goes, but for the failed bus write of 44_transfer.md rule R118. -/
def seqNext : Seq → Seq
  | .idle | .enable10 | .write7 | .prepare6 => .idle
  | .enable1 => .enable2
  | .enable2 => .enable3
  | .enable3 => .enable4
  | .enable4 => .enable5
  | .enable5 => .enable6
  | .enable6 => .enable7
  | .enable7 => .enable8
  | .enable8 => .enable9
  | .enable9 => .enable10
  | .write1 => .write2
  | .write2 => .write3
  | .write3 => .write4
  | .write4 => .write5
  | .write5 => .write6
  | .write6 => .write7
  | .prepare1 => .prepare2
  | .prepare2 => .prepare3
  | .prepare3 => .prepare4
  | .prepare4 => .prepare5
  | .prepare5 => .prepare6

/-- What is held at a position: `none` for no latch at all, else a transfer's operands, with a frame or
not and with a bus answer or not (10_state.md rules R15, R16). -/
def seqHolds : Seq → Option (Bool × Bool)
  | .idle | .enable1 | .enable2 | .enable3 | .enable4 | .enable5 => none
  | .enable6 | .enable7 | .enable8 | .enable9 | .enable10 => none
  | .write1 | .prepare1 | .prepare2 | .prepare3 => some (false, false)
  | .write2 | .write3 | .write4 | .prepare4 | .prepare5 | .prepare6 => some (true, false)
  | .write5 | .write6 | .write7 => some (true, true)

/-- How many drives are still to come from a position. -/
def drivesLeft : Seq → Nat
  | .idle | .enable10 | .write7 => 0
  | .enable8 | .enable9 | .write6 | .prepare6 => 1
  | .enable6 | .enable7 | .write4 | .write5 | .prepare3 | .prepare4 | .prepare5 => 2
  | .enable5 | .write3 | .prepare2 => 3
  | .enable4 | .write1 | .write2 | .prepare1 => 4
  | .enable3 => 5
  | .enable2 => 6
  | .enable1 => 7

/-- The step of each kind, going to `q`. -/
def State.act (p : Params) (s : State) (q : Seq) : SeqAction → Result
  | .rest => .next s
  | .drive l lvl => s.drive l lvl q
  | .wait => s.wait q
  | .build => s.buildFrame p q
  | .write => s.busWrite p
  | .initiate => s.initiate q
  | .activate => .next (s.activate.respond (.ok 0#24))
  | .report => s.reportBus
  | .close => andThen (s.drive .EN .high q) (fun t => .next (t.respond (.ok 0#24)))

/-- The table is the sequencer. -/
theorem State.advance_eq_act (p : Params) (s : State) :
    s.advance p = s.act p (seqNext s.seq) (seqAction s.seq) := by
  unfold State.advance
  cases s.seq <;> rfl

/-- The table says which latches fit. -/
theorem State.latchesFit_iff (p : Params) (s : State) :
    s.LatchesFit p ↔ match seqHolds s.seq with
      | none => s.LatchesEmpty
      | some (framed, answered) => s.TransferLatches p framed answered := by
  unfold State.LatchesFit
  cases s.seq <;> rfl

/-! ### Facts read off the table -/

section Table

variable {q : Seq}

theorem seqAction_eq_rest : seqAction q = .rest ↔ q = .idle := by cases q <;> simp [seqAction]
theorem seqAction_eq_write : seqAction q = .write ↔ q = .write4 := by cases q <;> simp [seqAction]
theorem seqAction_eq_initiate : seqAction q = .initiate ↔ q = .prepare4 := by
  cases q <;> simp [seqAction]
theorem seqAction_eq_activate : seqAction q = .activate ↔ q = .enable10 := by
  cases q <;> simp [seqAction]
theorem seqAction_eq_report : seqAction q = .report ↔ q = .write7 := by cases q <;> simp [seqAction]
theorem seqAction_eq_close : seqAction q = .close ↔ q = .prepare6 := by cases q <;> simp [seqAction]

/-- The next step of a running operation has the next number, or there is none. -/
theorem seqNumber_seqNext (h : q ≠ .idle) :
    (seqNext q = .idle ∧ (q = .enable10 ∨ q = .write7 ∨ q = .prepare6)) ∨
      seqNumber (seqNext q) = seqNumber q + 1 := by
  cases q <;> simp_all [seqNext, seqNumber]

/-- No sequence has more than ten steps. -/
theorem seqNumber_le (q : Seq) : seqNumber q ≤ 10 := by cases q <;> decide

theorem seqNumber_pos (h : q ≠ .idle) : 1 ≤ seqNumber q := by cases q <;> simp_all [seqNumber]

/-- A drive and a wait leave held what is held. -/
theorem seqHolds_drive {l : Line} {x : Level} (h : seqAction q = .drive l x) :
    seqHolds (seqNext q) = seqHolds q := by
  cases q <;> cases h <;> rfl

theorem seqHolds_wait (h : seqAction q = .wait) : seqHolds (seqNext q) = seqHolds q := by
  cases q <;> cases h <;> rfl

/-- The building step is the one that brings the frame (10_state.md rule R15). -/
theorem seqHolds_build (h : seqAction q = .build) :
    seqHolds q = some (false, false) ∧ seqHolds (seqNext q) = some (true, false) := by
  cases q <;> cases h <;> exact ⟨rfl, rfl⟩

theorem drivesLeft_drive {l : Line} {x : Level} (h : seqAction q = .drive l x) :
    drivesLeft q = drivesLeft (seqNext q) + 1 := by
  cases q <;> cases h <;> rfl

theorem drivesLeft_seqNext_le (q : Seq) : drivesLeft (seqNext q) ≤ drivesLeft q := by
  cases q <;> decide

theorem drivesLeft_le (q : Seq) : drivesLeft q ≤ 7 := by cases q <;> decide

end Table

/-! ### What one step leaves, with the position it goes to -/

/-- `State.advance_next` with the kind of step and where it goes. -/
inductive Advanced (p : Params) (s : State) : State → Prop
  | rests (hq : s.seq = .idle) : Advanced p s s
  | drives (l : Line) (x : Level) (a : LineAnswer) (hq : seqAction s.seq = .drive l x) :
      Advanced p s (s.driven l x a (seqNext s.seq))
  | waits (hq : seqAction s.seq = .wait) : Advanced p s ((s.emit .wait).goto (seqNext s.seq))
  | builds (c : Channel) (v : Value) (hq : seqAction s.seq = .build) (hc : s.opCh = some c)
      (hv : s.opVal = some v) :
      Advanced p s ((s.holdFrame (encodeFrame p c v)).goto (seqNext s.seq))
  | writes (f : Frame) (a : BusAnswer) (hq : s.seq = .write4) (hb : s.busReply = .answer a) :
      Advanced p s (s.written p f a)
  | initiates (f : Frame) (a : InitiatorAnswer) (hq : s.seq = .prepare4) :
      Advanced p s (s.initiated f a .prepare5)
  | activates (hq : s.seq = .enable10) : Advanced p s (s.activate.respond (.ok 0#24))
  | reports (r : Response) (hq : s.seq = .write7) : Advanced p s (s.respond r)
  | closes (a : LineAnswer) (hq : s.seq = .prepare6) :
      Advanced p s ((s.driven .EN .high a .idle).respond (.ok 0#24))

theorem State.advance_advanced (h : s.advance p = .next t) : Advanced p s t := by
  rw [State.advance_eq_act] at h
  cases hq : seqAction s.seq <;> rw [hq] at h
  case rest => exact Host.Outcome.next.inj h ▸ .rests (seqAction_eq_rest.1 hq)
  case drive l x =>
    obtain ⟨a, -, rfl⟩ := State.drive_next.1 h
    exact .drives l x a hq
  case wait => exact Host.Outcome.next.inj h ▸ .waits hq
  case build =>
    obtain ⟨c, v, hc, hv, rfl⟩ := State.buildFrame_next.1 h
    exact .builds c v hq hc hv
  case write =>
    obtain ⟨f, a, -, hb, rfl⟩ := State.busWrite_next.1 h
    exact .writes f a (seqAction_eq_write.1 hq) hb
  case initiate =>
    have hs := seqAction_eq_initiate.1 hq
    obtain ⟨f, a, -, -, rfl⟩ := State.initiate_next.1 h
    rw [hs]
    exact .initiates f a hs
  case activate => exact Host.Outcome.next.inj h ▸ .activates (seqAction_eq_activate.1 hq)
  case report =>
    obtain ⟨a, -, rfl⟩ := State.reportBus_next.1 h
    exact .reports _ (seqAction_eq_report.1 hq)
  case close =>
    have hs := seqAction_eq_close.1 hq
    obtain ⟨u, hu, ht⟩ := andThen_eq_next.1 h
    obtain ⟨a, -, rfl⟩ := State.drive_next.1 hu
    rw [hs] at ht
    exact Host.Outcome.next.inj ht ▸ .closes a hs

/-- A step goes where the table says, or past the closing line events after a failed bus write
(44_transfer.md rule R118). -/
theorem State.advance_seq (h : s.advance p = .next t) :
    t.seq = seqNext s.seq ∨
      (s.seq = .write4 ∧ t.seq = .write7 ∧ s.busReply = .answer .fail ∧
        p.deassertOnBusError = false) := by
  cases State.advance_advanced h with
  | rests hq => exact .inl (by rw [hq]; rfl)
  | drives l x a hq => exact .inl (State.driven_seq ..)
  | waits hq => exact .inl rfl
  | builds c v hq hc hv => exact .inl rfl
  | writes f a hq hb =>
    by_cases hd : a = .fail ∧ p.deassertOnBusError = false
    · obtain ⟨rfl, hp⟩ := hd
      exact .inr ⟨hq, by simp [hp], hb, hp⟩
    · exact .inl (by rw [State.written_seq, if_neg hd, hq]; rfl)
  | initiates f a hq => exact .inl (by rw [State.initiated_seq, hq]; rfl)
  | activates hq | reports r hq | closes a hq => exact .inl (by rw [hq]; rfl)

/-- Settles O48: the table's next position has the next number. -/
theorem sequencerGoesOneStepAtATime : Obligations.SequencerGoesOneStepAtATime := by
  intro p s t hs h
  rcases State.advance_seq h with hq | hfail
  · rw [hq]
    rcases seqNumber_seqNext hs with hend | hnum
    · exact .inl hend
    · exact .inr (.inl hnum)
  · exact .inr (.inr hfail)

/-! ### A step keeps the latches what the position says they are -/

/-- The part of the state that `State.TransferLatches` and `State.LatchesEmpty` speak of. -/
def State.held (s : State) :
    Bool × Option Channel × Option Value × Option Nat × Option Frame × Option BusAnswer :=
  (s.active, s.opCh, s.opVal, s.opIdx, s.frame, s.busAnswer)

theorem State.latchesFit_of_held (hq : seqHolds t.seq = seqHolds s.seq) (hh : t.held = s.held)
    (h : s.LatchesFit p) : t.LatchesFit p := by
  obtain ⟨h1, h2, h3, h4, h5, h6⟩ : t.active = s.active ∧ t.opCh = s.opCh ∧ t.opVal = s.opVal ∧
      t.opIdx = s.opIdx ∧ t.frame = s.frame ∧ t.busAnswer = s.busAnswer := by
    simpa [State.held] using hh
  rw [State.latchesFit_iff] at h ⊢
  simpa only [hq, State.LatchesEmpty, State.TransferLatches, h1, h2, h3, h4, h5, h6] using h

theorem State.latchesFit_of_idle (hq : s.seq = .idle) (h : s.LatchesEmpty) : s.LatchesFit p := by
  rw [State.latchesFit_iff, hq]
  exact h

/-- An operation that has answered holds nothing (10_state.md rules R15, R16). -/
theorem State.respond_latchesEmpty (s : State) (r : Response) : (s.respond r).LatchesEmpty := by
  simp [State.LatchesEmpty]

theorem State.transferLatches_of_holds {framed answered : Bool} (h : s.LatchesFit p)
    (hq : seqHolds s.seq = some (framed, answered)) : s.TransferLatches p framed answered := by
  rw [State.latchesFit_iff, hq] at h
  exact h

theorem State.latchesFit_of_transfer {framed answered : Bool}
    (hq : seqHolds s.seq = some (framed, answered)) (h : s.TransferLatches p framed answered) :
    s.LatchesFit p := by
  rw [State.latchesFit_iff, hq]
  exact h

theorem State.advance_latchesFit (h : s.LatchesFit p) (ht : s.advance p = .next t) :
    t.LatchesFit p := by
  cases State.advance_advanced ht with
  | rests hq => exact h
  | drives l x a hq =>
    exact State.latchesFit_of_held (by simpa using seqHolds_drive hq) (by simp [State.held]) h
  | waits hq => exact State.latchesFit_of_held (seqHolds_wait hq) rfl h
  | builds c v hq hc hv =>
    obtain ⟨ha, hi, hb, -⟩ := State.transferLatches_of_holds h (seqHolds_build hq).1
    exact State.latchesFit_of_transfer (seqHolds_build hq).2 ⟨ha, hi, hb, c, v, hc, hv, rfl⟩
  | writes f a hq hb =>
    obtain ⟨ha, hi, -, hf⟩ :=
      State.transferLatches_of_holds (framed := true) (answered := false) h (by rw [hq]; rfl)
    refine State.latchesFit_of_transfer (framed := true) (answered := true) ?_ ?_
    · rw [State.written_seq]
      split <;> rfl
    · exact ⟨by simpa using ha, by simpa using hi, by simp, by simpa using hf⟩
  | initiates f a hq =>
    exact State.latchesFit_of_held (by rw [State.initiated_seq, hq]; rfl) (by simp [State.held]) h
  | activates hq | reports r hq | closes a hq =>
    exact State.latchesFit_of_idle rfl (State.respond_latchesEmpty _ _)

/-- The sequencer keeps consistency: a halted block is idle, and its step leaves it as it is. -/
theorem State.advance_consistent (h : s.Consistent p) (ht : s.advance p = .next t) :
    t.Consistent p := by
  obtain ⟨hfit, hhalt⟩ := h
  refine ⟨State.advance_latchesFit hfit ht, fun hh => ?_⟩
  have hidle := hhalt ((State.advance_keeps ht).2.1 ▸ hh)
  have ht' : s = t := by simpa [State.advance, hidle] using ht
  exact ht' ▸ hidle

theorem State.consistent_of_held (hq : t.seq = s.seq) (hh : t.held = s.held)
    (hhalt : t.halted = s.halted) (h : s.Consistent p) : t.Consistent p :=
  ⟨State.latchesFit_of_held (by rw [hq]) hh h.1, by rw [hq, hhalt]; exact h.2⟩

theorem State.consistent_of_idle (hq : s.seq = .idle) (h : s.LatchesEmpty) : s.Consistent p :=
  ⟨State.latchesFit_of_idle hq h, fun _ => hq⟩

/-- An instruction is a frame row, which touches nothing of the block, or ends idle with nothing held. -/
theorem exec_consistent {i : Instr} (h : s.Consistent p) (ht : exec i s = .next t) :
    t.Consistent p := by
  cases exec_effect ht with
  | recognises i c v hi => exact State.consistent_of_held rfl rfl rfl h
  | constructs hs => exact State.consistent_of_idle rfl ⟨rfl, rfl, rfl, rfl, rfl⟩
  | answers | enables | writes | prepares =>
    exact State.consistent_of_idle rfl (State.respond_latchesEmpty _ _)

/-- Settles O53: a step is an instruction, an input that touches no latch, or a step of the sequencer. -/
theorem stepKeepsConsistency : Obligations.StepKeepsConsistency := by
  intro s t h ht
  have hin : s.takeInput.Consistent specParams := State.consistent_of_held rfl rfl rfl h
  rcases step_next ht with ⟨i, -, -, he⟩ | ⟨-, f, rfl⟩ | ⟨-, rfl⟩ | ⟨-, rfl⟩ | ⟨-, hadv⟩
  · exact exec_consistent hin he
  · exact State.consistent_of_held rfl rfl rfl h
  · exact State.consistent_of_held rfl rfl rfl h
  · exact hin
  · exact State.advance_consistent h hadv

/-! ### A consistent step stops only for a call that never returns -/

/-- From latches that fit, a step has a next state, or meets a call that never returns: a drive with a
drive still to come, or one of the two calls at step 4. -/
theorem State.advance_total (h : s.LatchesFit p) :
    (∃ t, s.advance p = .next t) ∨
      ∃ who, s.advance p = .fault (.neverReturned who) ∧
        ((s.lineReply = .never ∧ 1 ≤ drivesLeft s.seq) ∨
          (s.seq = .write4 ∧ s.busReply = .never) ∨
          (s.seq = .prepare4 ∧ s.initiatorReply = .never)) := by
  rw [State.advance_eq_act]
  cases hq : seqAction s.seq with
  | rest | wait | activate => exact .inl ⟨_, rfl⟩
  | drive l x =>
    cases hr : s.lineReply with
    | answer a => exact .inl ⟨_, State.drive_answer hr ..⟩
    | never =>
      have := drivesLeft_drive hq
      exact .inr ⟨_, State.drive_never hr .., .inl ⟨rfl, by omega⟩⟩
  | build =>
    obtain ⟨-, -, -, c, v, hc, hv, -⟩ := State.transferLatches_of_holds h (seqHolds_build hq).1
    exact .inl ⟨_, State.buildFrame_some hc hv _⟩
  | write =>
    have hs := seqAction_eq_write.1 hq
    obtain ⟨-, -, -, c, v, -, -, hf⟩ :=
      State.transferLatches_of_holds (framed := true) (answered := false) h (by rw [hs]; rfl)
    cases hr : s.busReply with
    | answer a => exact .inl ⟨_, State.busWrite_answer hf hr⟩
    | never => exact .inr ⟨.bus, by simp [State.act, State.busWrite, hf, hr], .inr (.inl ⟨hs, rfl⟩)⟩
  | initiate =>
    have hs := seqAction_eq_initiate.1 hq
    obtain ⟨-, -, -, c, v, -, -, hf⟩ :=
      State.transferLatches_of_holds (framed := true) (answered := false) h (by rw [hs]; rfl)
    cases hr : s.initiatorReply with
    | answer a => exact .inl ⟨_, State.initiate_answer hf hr _⟩
    | never =>
      exact .inr ⟨.initiator, by simp [State.act, State.initiate, hf, hr], .inr (.inr ⟨hs, rfl⟩)⟩
  | report =>
    have hs := seqAction_eq_report.1 hq
    obtain ⟨-, -, hb, -⟩ :=
      State.transferLatches_of_holds (framed := true) (answered := true) h (by rw [hs]; rfl)
    obtain ⟨a, ha⟩ := Option.isSome_iff_exists.1 hb
    exact .inl ⟨_, State.reportBus_some ha⟩
  | close =>
    have hs := seqAction_eq_close.1 hq
    cases hr : s.lineReply with
    | answer a =>
      exact .inl ⟨(s.driven .EN .high a (seqNext s.seq)).respond (.ok 0#24),
        by simp [State.act, State.drive_answer hr]⟩
    | never =>
      exact .inr ⟨.line, by simp [State.act, State.drive_never hr], .inl ⟨rfl, by rw [hs]; decide⟩⟩

/-- No step of the sequencer reads an empty latch while the latches fit. -/
theorem State.advance_ne_latchEmpty (h : s.LatchesFit p) : s.advance p ≠ .fault .latchEmpty := by
  rcases State.advance_total h with ⟨t, ht⟩ | ⟨who, hw, -⟩ <;> simp [*]

theorem State.whenReady_ne_latchEmpty {body : Result} (h : body ≠ .fault .latchEmpty) :
    s.whenReady body ≠ .fault .latchEmpty := by
  unfold State.whenReady
  split
  · simp
  · split
    · simp
    · exact h

theorem State.whenActive_ne_latchEmpty {body : Result} (h : body ≠ .fault .latchEmpty) :
    s.whenActive body ≠ .fault .latchEmpty := by
  unfold State.whenActive
  split
  · simp
  · exact h

/-- An instruction latches its own operands, so it reads no empty latch, from any state. -/
theorem exec_ne_latchEmpty (i : Instr) (s : State) : exec i s ≠ .fault .latchEmpty := by
  cases i with
  | frameA | frameB | frameC | frameD | frameAll => exact nofun
  | enable =>
    refine State.whenReady_ne_latchEmpty ?_
    rcases State.run_enable specParams s with ⟨-, e⟩ | ⟨-, a1, a2, a3, a4, a5, a6, a7, e⟩ <;>
      simp [e]
  | writeBlocking c v =>
    refine State.whenReady_ne_latchEmpty (State.whenActive_ne_latchEmpty ?_)
    rcases State.run_write specParams s c v with ⟨w, e, -⟩ | ⟨_, _, -, -, e⟩ |
      ⟨b, a1, a2, a3, a4, -, -, -, e⟩ <;> simp [e]
  | prepareTransfer c v =>
    refine State.whenReady_ne_latchEmpty (State.whenActive_ne_latchEmpty ?_)
    rcases State.run_prepare specParams s c v with ⟨w, e, -⟩ | ⟨b, a1, a2, a3, a4, -, -, e⟩ <;>
      simp [e]
  | fromIndex n =>
    refine State.whenReady_ne_latchEmpty ?_
    cases hc : channelOfIndex n <;> simp [State.answerIndex, hc, specParams]
  | encode c v => exact State.whenReady_ne_latchEmpty (by simp [State.answerFrame])
  | construct =>
    change execConstruct s ≠ _
    unfold execConstruct
    split <;> simp

/-- A fetch that runs no instruction faults only where the sequencer does. -/
theorem State.fetch_fault {r : Fault} (h : s.fetch = .done (.fault r)) :
    s.advance specParams = .fault r := by
  have hp : ∀ x, s.present x ≠ .done (.fault r) := by
    intro x hx
    unfold State.present at hx
    split at hx <;> cases hx
  unfold State.fetch at h
  split at h
  · cases h
  · unfold State.seeFrame at h
    split at h <;> cases h
  · split at h
    · exact absurd h (hp _)
    · exact Fetched.done.inj h
  · split at h
    · cases h
    · split at h
      · exact absurd h (hp _)
      · cases h
  · exact Fetched.done.inj h

/-- A step faults in an instruction or in the sequencer. -/
theorem step_fault {r : Fault} (h : step s = .fault r) :
    (∃ i u, exec i u = .fault r) ∨ s.advance specParams = .fault r := by
  cases hf : s.fetch with
  | run i u => exact .inl ⟨i, u, by simpa [step, hf] using h⟩
  | done o =>
    have ho : o = .fault r := by simpa [step, hf] using h
    exact .inr (State.fetch_fault (ho ▸ hf))

/-- Settles O57: neither an instruction nor a step of the sequencer reads an empty latch. -/
theorem noStepReadsAnEmptyLatch : Obligations.NoStepReadsAnEmptyLatch := by
  intro s h hstep
  rcases step_fault hstep with ⟨i, u, he⟩ | hadv
  · exact exec_ne_latchEmpty i u he
  · exact State.advance_ne_latchEmpty h.1 hadv

/-! ### A running operation ends -/

/-- The calls still to come return: the drives left, and, up to step 4, the bus write and the call of
the initiator. -/
def State.CallsReturn (s : State) : Prop :=
  s.LinesReturn (drivesLeft s.seq) ∧
    (s.seq ≠ .idle → seqNumber s.seq ≤ 4 → s.BusReturns ∧ s.InitiatorReturns)

/-- With calls that return, a step from latches that fit has a next state. -/
theorem State.advance_exists_next (h : s.LatchesFit p) (hc : s.CallsReturn) :
    ∃ t, s.advance p = .next t := by
  obtain ⟨hl, hother⟩ := hc
  rcases State.advance_total h with ht | ⟨who, -, ⟨hr, hd⟩ | ⟨hs, hr⟩ | ⟨hs, hr⟩⟩
  · exact ht
  · exact absurd hr (State.linesReturn_succ.1 (State.linesReturn_mono hd hl)).1
  · exact absurd hr (hother (by simp [hs]) (by simp [hs, seqNumber])).1
  · exact absurd hr (hother (by simp [hs]) (by simp [hs, seqNumber])).2

/-- A step asks neither the bus nor the initiator but at step 4. -/
theorem State.advance_keeps_replies (h : s.advance p = .next t) (ht : t.seq ≠ .idle)
    (hn : seqNumber s.seq ≠ 4) :
    t.busReply = s.busReply ∧ t.initiatorReply = s.initiatorReply := by
  have keeps : ∀ u : State, u.busReplies = s.busReplies → u.initiatorReplies = s.initiatorReplies →
      u.busDraws = s.busDraws → u.initiatorDraws = s.initiatorDraws →
      u.busReply = s.busReply ∧ u.initiatorReply = s.initiatorReply := fun u h1 h2 h3 h4 => by
    simp [State.busReply, State.initiatorReply, h1, h2, h3, h4]
  cases State.advance_advanced h with
  | rests hq => exact ⟨rfl, rfl⟩
  | drives l x a hq => exact keeps _ (by simp) (by simp) (by simp) (by simp)
  | waits hq | builds c v hq => exact keeps _ rfl rfl rfl rfl
  | writes f a hq | initiates f a hq => exact absurd (by rw [hq]; rfl) hn
  | activates hq | reports r hq | closes a hq => exact absurd rfl ht

/-- A step takes at most the one drive the table counts for it. -/
theorem State.advance_linesReturn (h : s.advance p = .next t)
    (hl : s.LinesReturn (drivesLeft s.seq)) : t.LinesReturn (drivesLeft t.seq) := by
  have onward : ∀ u : State, u.lineReplies = s.lineReplies →
      u.LinesReturn (drivesLeft (seqNext s.seq)) :=
    fun u hu => (State.linesReturn_congr hu).2 (State.linesReturn_mono (drivesLeft_seqNext_le _) hl)
  cases State.advance_advanced h with
  | rests hq => exact hl
  | drives l x a hq =>
    rw [drivesLeft_drive hq] at hl
    simpa using (State.linesReturn_congr (s := s.lineAsked) (by simp)).2 (State.linesReturn_asked hl)
  | waits hq | builds c v hq => exact onward _ rfl
  | writes f a hq hb =>
    have hle : drivesLeft (s.written p f a).seq ≤ drivesLeft s.seq := by
      rw [State.written_seq, hq]
      split <;> decide
    exact (State.linesReturn_congr (by simp)).2 (State.linesReturn_mono hle hl)
  | initiates f a hq =>
    have hn : seqNext s.seq = (s.initiated f a .prepare5).seq := by rw [State.initiated_seq, hq]; rfl
    exact hn ▸ onward _ (by simp)
  | activates hq | reports r hq | closes a hq => exact State.linesReturn_zero _

theorem State.advance_callsReturn (hc : s.CallsReturn) (h : s.advance p = .next t) :
    t.CallsReturn := by
  obtain ⟨hl, hother⟩ := hc
  refine ⟨State.advance_linesReturn h hl, fun ht hn => ?_⟩
  have hs : s.seq ≠ .idle := by
    intro hs
    have hst : s = t := by simpa [State.advance, hs] using h
    exact ht (hst ▸ hs)
  have hnum : seqNumber t.seq = seqNumber s.seq + 1 := by
    rcases sequencerGoesOneStepAtATime p s t hs h with ⟨hidle, -⟩ | hnum | ⟨-, h7, -⟩
    · exact absurd hidle ht
    · exact hnum
    · simp [h7, seqNumber] at hn
  obtain ⟨hbus, hinit⟩ := State.advance_keeps_replies h ht (by omega)
  obtain ⟨hb, hi⟩ := hother hs (by omega)
  exact ⟨by rwa [State.BusReturns, hbus], by rwa [State.InitiatorReturns, hinit]⟩

/-- Each step of a running operation ends it or goes to a higher number, and there are ten numbers. -/
theorem State.runSteps_reaches_idle (n : Nat) : ∀ s : State, s.LatchesFit p → s.CallsReturn →
    (s.seq = .idle ∨ 11 ≤ seqNumber s.seq + n) → ∃ t, s.runSteps p n = .next t ∧ t.seq = .idle := by
  induction n with
  | zero =>
    intro s _ _ hn
    have hle := seqNumber_le s.seq
    exact ⟨s, rfl, hn.resolve_right (by omega)⟩
  | succ n ih =>
    intro s hfit hc hn
    by_cases hs : s.seq = .idle
    · exact ⟨s, State.runSteps_idle hs _, hs⟩
    obtain ⟨u, hu⟩ := State.advance_exists_next hfit hc
    rw [State.runSteps_step hu]
    refine ih u (State.advance_latchesFit hfit hu) (State.advance_callsReturn hc hu) ?_
    have hn := hn.resolve_left hs
    rcases sequencerGoesOneStepAtATime p s u hs hu with ⟨hidle, -⟩ | hnum | ⟨h4, h7, -⟩
    · exact .inl hidle
    · exact .inr (by omega)
    · rw [h4] at hn
      rw [h7]
      simp only [seqNumber] at hn ⊢
      exact .inr (by omega)

/-- Settles O49: ten steps from a number of at least 1. -/
theorem sequencerReachesIdle : Obligations.SequencerReachesIdle := by
  intro p s hcons hl hb hi
  have hc : s.CallsReturn := ⟨State.linesReturn_mono (drivesLeft_le _) hl, fun _ _ => ⟨hb, hi⟩⟩
  refine State.runSteps_reaches_idle 10 s hcons.1 hc ?_
  by_cases hs : s.seq = .idle
  · exact .inl hs
  · have := seqNumber_pos hs
    exact .inr (by omega)

/-! ### Who writes `active` and `pending` -/

@[simp] theorem State.enabled_active (a1 a2 a3 a4 a5 a6 a7 : LineAnswer) :
    (s.enabled a1 a2 a3 a4 a5 a6 a7).active = true := rfl

@[simp] theorem State.writeClosed_active (c : Channel) (v : Value) (b : BusAnswer)
    (a1 a2 a3 a4 : LineAnswer) : (s.writeClosed p c v b a1 a2 a3 a4).active = s.active := by
  simp [State.writeClosed, State.writeOpened]

@[simp] theorem State.prepareClosed_active (c : Channel) (v : Value) (b : InitiatorAnswer)
    (a1 a2 a3 a4 : LineAnswer) : (s.prepareClosed p c v b a1 a2 a3 a4).active = s.active := by
  simp [State.prepareClosed, State.prepareOpened]

@[simp] theorem State.enabled_pending (a1 a2 a3 a4 a5 a6 a7 : LineAnswer) :
    (s.enabled a1 a2 a3 a4 a5 a6 a7).pending = s.pending := by
  simp [State.enabled, State.enableWaited, State.enableHalf]

@[simp] theorem State.writeClosed_pending (c : Channel) (v : Value) (b : BusAnswer)
    (a1 a2 a3 a4 : LineAnswer) : (s.writeClosed p c v b a1 a2 a3 a4).pending = s.pending := by
  simp [State.writeClosed, State.writeOpened]

@[simp] theorem State.prepareClosed_pending (c : Channel) (v : Value) (b : InitiatorAnswer)
    (a1 a2 a3 a4 : LineAnswer) :
    (s.prepareClosed p c v b a1 a2 a3 a4).pending =
      if b = .deferred then s.pending ++ [encodeFrame p c v] else s.pending := by
  simp [State.prepareClosed, State.prepareOpened]

/-- Of the instructions only `CONSTRUCT` and `ENABLE` write `active` (10_state.md rule R11). -/
theorem exec_active {i : Instr} (h : exec i s = .next t) :
    (i = .construct ∧ t.active = false) ∨ (i = .enable ∧ t.active = true) ∨ t.active = s.active := by
  cases exec_effect h with
  | constructs hs => exact .inl ⟨rfl, rfl⟩
  | enables hs => exact .inr (.inl ⟨rfl, rfl⟩)
  | recognises | answers => exact .inr (.inr rfl)
  | writes hs c v b a1 a2 a3 a4 => exact .inr (.inr (State.writeClosed_active ..))
  | prepares hs c v b a1 a2 a3 a4 => exact .inr (.inr (State.prepareClosed_active ..))

/-- Settles O51: an instruction, or the tenth step of the handshake, or `active` stays. -/
theorem activeChangesOnlyInItsOperations : Obligations.ActiveChangesOnlyInItsOperations := by
  intro s t h
  have same : t.active = s.active → (s.active = true → t.active = false →
      s.nextInstr = some .construct) ∧ (s.active = false → t.active = true →
      s.nextInstr = some .enable ∨ s.seq = .enable10) := fun ht => by simp_all
  rcases step_next h with ⟨i, hi, -, he⟩ | ⟨-, f, rfl⟩ | ⟨-, rfl⟩ | ⟨-, rfl⟩ | ⟨-, hadv⟩
  · rcases exec_active he with ⟨rfl, hf⟩ | ⟨rfl, ht⟩ | ht
    · exact ⟨fun _ _ => hi, by simp [hf]⟩
    · exact ⟨by simp [ht], fun _ _ => .inl hi⟩
    · exact same ht
  · exact same rfl
  · exact same rfl
  · exact same rfl
  · obtain ⟨-, -, ht | ⟨hs, ht⟩⟩ := State.advance_keeps hadv
    · exact same ht
    · exact ⟨by simp [ht], fun _ _ => .inr hs⟩

/-- Settles O42: one case for each effect of an instruction. -/
theorem pendingGrowsByDeferredCallsOnly : Obligations.PendingGrowsByDeferredCallsOnly := by
  intro i s t h
  cases exec_effect h with
  | recognises i c v hi =>
    obtain ⟨-, hc, -, -, hp, -⟩ := frameRow_not_operation c v
    exact ⟨fun h => absurd (hi.symm.trans h) hc, fun d w h => absurd (hi.symm.trans h) (hp d w),
      fun _ _ => rfl⟩
  | answers i r hs hr hc he ht =>
    exact ⟨fun h => absurd h hc, fun c v h ha => absurd h ((ht ha).2 c v), fun _ _ => rfl⟩
  | constructs hs => exact ⟨fun _ => rfl, by simp, fun h => absurd rfl h⟩
  | enables hs => exact ⟨by simp, by simp, by simp⟩
  | writes hs c v b a1 a2 a3 a4 => exact ⟨by simp, by simp, by simp⟩
  | prepares hs c v b a1 a2 a3 a4 ha hb =>
    refine ⟨by simp, ?_, ?_⟩
    · rintro c' v' ⟨⟩ - hd
      have hbd : b = .deferred := by simpa [hb] using hd
      simp [hbd]
    · intro _ hsent
      have hbs : b = .sent := by simpa [hb] using hsent c v rfl ha
      simp [hbs]

/-! ### Who reads `active` -/

/-- The state with another value of `active`. -/
def State.withActive (s : State) (b : Bool) : State := { s with active := b }

/-- The same stop, or next states that differ in `active` alone. -/
inductive SameButActive : Result → Result → Prop
  | next {s t : State} (b : Bool) (h : t = s.withActive b) : SameButActive (.next s) (.next t)
  | fault (r : Fault) : SameButActive (.fault r) (.fault r)
  | refused (r : Refusal) : SameButActive (.refused r) (.refused r)

theorem sameButActive_andThen {o o' : Result} {f g : State → Result} (h : SameButActive o o')
    (hf : ∀ s b, SameButActive (f s) (g (s.withActive b))) :
    SameButActive (andThen o f) (andThen o' g) := by
  cases h with
  | @next s _ b h => exact h ▸ hf s b
  | fault r => exact .fault r
  | refused r => exact .refused r

section Active

variable (s : State) (b : Bool)

@[simp] theorem State.withActive_opCh : (s.withActive b).opCh = s.opCh := rfl
@[simp] theorem State.withActive_opVal : (s.withActive b).opVal = s.opVal := rfl
@[simp] theorem State.withActive_opIdx : (s.withActive b).opIdx = s.opIdx := rfl
@[simp] theorem State.withActive_frame : (s.withActive b).frame = s.frame := rfl
@[simp] theorem State.withActive_busAnswer : (s.withActive b).busAnswer = s.busAnswer := rfl
@[simp] theorem State.withActive_lineReply : (s.withActive b).lineReply = s.lineReply := rfl
@[simp] theorem State.withActive_busReply : (s.withActive b).busReply = s.busReply := rfl
@[simp] theorem State.withActive_initiatorReply :
    (s.withActive b).initiatorReply = s.initiatorReply := rfl

@[simp] theorem State.lineAsked_withActive : (s.withActive b).lineAsked = s.lineAsked.withActive b := by
  cases h : s.lineReplies <;> simp [State.lineAsked, State.withActive, h]

@[simp] theorem State.busAsked_withActive : (s.withActive b).busAsked = s.busAsked.withActive b := by
  cases h : s.busReplies <;> simp [State.busAsked, State.withActive, h]

@[simp] theorem State.initiatorAsked_withActive :
    (s.withActive b).initiatorAsked = s.initiatorAsked.withActive b := by
  cases h : s.initiatorReplies <;> simp [State.initiatorAsked, State.withActive, h]

theorem State.driven_withActive (l : Line) (x : Level) (a : LineAnswer) (q : Seq) :
    (s.withActive b).driven l x a q = (s.driven l x a q).withActive b := by
  cases l <;> simp only [State.driven, State.lineAsked_withActive] <;> rfl

theorem State.initiated_withActive (f : Frame) (a : InitiatorAnswer) (q : Seq) :
    (s.withActive b).initiated f a q = (s.initiated f a q).withActive b := by
  cases a <;> simp only [State.initiated, State.initiatorAsked_withActive] <;> rfl

theorem State.written_withActive (p : Params) (f : Frame) (a : BusAnswer) :
    (s.withActive b).written p f a = (s.written p f a).withActive b := by
  simp only [State.written, State.busAsked_withActive]
  rfl

/-! ### No step of the sequencer reads `active` -/

theorem State.drive_sameButActive (l : Line) (x : Level) (q : Seq) :
    SameButActive (s.drive l x q) ((s.withActive b).drive l x q) := by
  cases hr : s.lineReply with
  | never =>
    rw [State.drive_never hr, State.drive_never (by simpa using hr)]
    exact .fault _
  | answer a =>
    rw [State.drive_answer hr, State.drive_answer (by simpa using hr)]
    exact .next b (State.driven_withActive ..)

theorem State.buildFrame_sameButActive (p : Params) (q : Seq) :
    SameButActive (s.buildFrame p q) ((s.withActive b).buildFrame p q) := by
  cases hc : s.opCh <;> cases hv : s.opVal <;>
    simp only [State.buildFrame, State.withActive_opCh, State.withActive_opVal, hc, hv]
  case some.some => exact .next b rfl
  all_goals exact .fault _

theorem State.busWrite_sameButActive (p : Params) :
    SameButActive (s.busWrite p) ((s.withActive b).busWrite p) := by
  cases hf : s.frame with
  | none =>
    simp only [State.busWrite, State.withActive_frame, hf]
    exact .fault _
  | some f =>
    cases hr : s.busReply with
    | never =>
      simp only [State.busWrite, State.withActive_frame, State.withActive_busReply, hf, hr]
      exact .fault _
    | answer a =>
      rw [State.busWrite_answer hf hr,
        State.busWrite_answer (s := s.withActive b) (by simpa using hf) (by simpa using hr)]
      exact .next b (State.written_withActive ..)

theorem State.initiate_sameButActive (q : Seq) :
    SameButActive (s.initiate q) ((s.withActive b).initiate q) := by
  cases hf : s.frame with
  | none =>
    simp only [State.initiate, State.withActive_frame, hf]
    exact .fault _
  | some f =>
    cases hr : s.initiatorReply with
    | never =>
      simp only [State.initiate, State.withActive_frame, State.withActive_initiatorReply, hf, hr]
      exact .fault _
    | answer a =>
      rw [State.initiate_answer hf hr,
        State.initiate_answer (s := s.withActive b) (by simpa using hf) (by simpa using hr)]
      exact .next b (State.initiated_withActive ..)

theorem State.reportBus_sameButActive : SameButActive s.reportBus (s.withActive b).reportBus := by
  cases ha : s.busAnswer with
  | none =>
    simp only [State.reportBus, State.withActive_busAnswer, ha]
    exact .fault _
  | some a =>
    rw [State.reportBus_some ha, State.reportBus_some (by simpa using ha)]
    exact .next b rfl

theorem State.advance_sameButActive (p : Params) :
    SameButActive (s.advance p) ((s.withActive b).advance p) := by
  rw [State.advance_eq_act, State.advance_eq_act]
  change SameButActive (s.act p (seqNext s.seq) _) ((s.withActive b).act p (seqNext s.seq)
    (seqAction s.seq))
  cases seqAction s.seq with
  | rest | wait => exact .next b rfl
  | drive l x => exact State.drive_sameButActive ..
  | build => exact State.buildFrame_sameButActive ..
  | write => exact State.busWrite_sameButActive ..
  | initiate => exact State.initiate_sameButActive ..
  | activate => exact .next true rfl
  | report => exact State.reportBus_sameButActive ..
  | close =>
    refine sameButActive_andThen (State.drive_sameButActive ..) fun u c => ?_
    exact .next c rfl

theorem State.runSteps_sameButActive (p : Params) (n : Nat) : ∀ (s : State) (b : Bool),
    SameButActive (s.runSteps p n) ((s.withActive b).runSteps p n) := by
  induction n with
  | zero => exact fun s b => .next b rfl
  | succ n ih => exact fun s b => sameButActive_andThen (State.advance_sameButActive ..) ih

theorem State.answerIndex_sameButActive (p : Params) :
    SameButActive (s.answerIndex p) ((s.withActive b).answerIndex p) := by
  simp only [State.answerIndex, State.withActive_opIdx]
  split
  · exact .fault _
  · split
    · exact .next b rfl
    · split
      · exact .next b rfl
      · exact .next b rfl

/-- The test in front of an operation reads the sequencer position and the halt only. -/
theorem State.whenReady_sameButActive {body body' : Result} (h : SameButActive body body') :
    SameButActive (s.whenReady body) ((s.withActive b).whenReady body') := by
  change SameButActive (s.whenReady body) (s.whenReady body')
  unfold State.whenReady
  split
  · exact .refused _
  · split
    · exact .fault _
    · exact h

/-- Of the operations only the two transfers read `active` (10_state.md rule R12). -/
theorem exec_sameButActive {i : Instr} (hw : ∀ c v, i ≠ .writeBlocking c v)
    (hp : ∀ c v, i ≠ .prepareTransfer c v) :
    SameButActive (exec i s) (exec i (s.withActive b)) := by
  cases i with
  | frameA | frameB | frameC | frameD | frameAll => exact .next b rfl
  | enable => exact State.whenReady_sameButActive _ _ (State.runSteps_sameButActive _ _ _ b)
  | writeBlocking c v => exact absurd rfl (hw c v)
  | prepareTransfer c v => exact absurd rfl (hp c v)
  | fromIndex n => exact State.whenReady_sameButActive _ _ (State.answerIndex_sameButActive _ b _)
  | encode c v => exact State.whenReady_sameButActive _ _ (.next b rfl)
  | construct =>
    change SameButActive (execConstruct s) (execConstruct (s.withActive b))
    unfold execConstruct
    change SameButActive _ (if s.seq ≠ .idle then _ else _)
    split
    · exact .refused _
    · exact .next false rfl

end Active

/-- Two outcomes that are the same but for `active`, in the words of the statement. -/
theorem SameButActive.clauses {o o' : Result} (h : SameButActive o o') :
    (∀ t, o = .next t → ∃ b, o' = .next (t.withActive b)) ∧
      (∀ r, o = .fault r → o' = .fault r) ∧ ∀ r, o = .refused r → o' = .refused r := by
  cases h with
  | next b h => exact ⟨fun t ht => ⟨b, by rw [h, Host.Outcome.next.inj ht]⟩, nofun, nofun⟩
  | fault r => simp
  | refused r => simp

/-- Settles O35: the sequencer and the tests it starts with do not read `active`; only the guard of the
transfers does. -/
theorem activeIsReadByTheTransfersOnly : Obligations.ActiveIsReadByTheTransfersOnly :=
  fun _ s b hw hp => (exec_sameButActive s b hw hp).clauses

end Sys2Proof.Machine

/-!
The family 20_memory: the byte order of a frame (20_memory.md rules R34, R35) and the history that no
step rewrites (rule R39).
-/

namespace Sys2Proof

/-- A frame word in the words of 20_memory.md rule R34: `(byte0 << 16) | value`. -/
theorem frameWord_eq_shiftLeft_or (b : Byte) (v : Value) :
    frameWord b v = (b.setWidth 24 <<< 16) ||| v.setWidth 24 := by
  rw [← BitVec.setWidth_append_eq_shiftLeft_setWidth_or, BitVec.setWidth_eq]
  rfl

/-- The mask of a byte is what taking the low byte does anyway. -/
theorem setWidth_and_byteMask (v : Value) : (v &&& 0xFF#16).setWidth 8 = v.setWidth 8 := by
  rw [BitVec.setWidth_and]
  exact BitVec.and_allOnes

end Sys2Proof

namespace Sys2Proof.Machine

variable {p : Params} {s t : State}

/-! ### The bytes of a frame -/

section Bytes

variable (p) (c : Channel) (v : Value)

/-- The fixed bits and the selector code fill different nibbles, so their OR puts them side by side. -/
theorem encodeFrame_b0 : (encodeFrame p c v).b0 = 0b0001#4 ++ sel p c := by
  change (0b0001#4 ++ 0b0000#4) ||| (sel p c).setWidth 8 = _
  rw [BitVec.setWidth_eq_append (by decide)]
  refine BitVec.or_append.trans ?_
  simp

theorem encodeFrame_b1 : (encodeFrame p c v).b1 = v.extractLsb' 8 8 :=
  (setWidth_and_byteMask _).trans BitVec.setWidth_ushiftRight_eq_extractLsb

theorem encodeFrame_b2 : (encodeFrame p c v).b2 = v.extractLsb' 0 8 :=
  (setWidth_and_byteMask v).trans (BitVec.setWidth_eq_extractLsb' (by decide))

/-- The two value bytes, the high one first, are the value again. -/
theorem frameNumber_encodeFrame :
    frameNumber (encodeFrame p c v) = frameWord (encodeFrame p c v).b0 v := by
  have hv : (encodeFrame p c v).b1 ++ (encodeFrame p c v).b2 = v := by
    rw [encodeFrame_b1, encodeFrame_b2]
    exact BitVec.extractLsb'_append_extractLsb'
  calc frameNumber (encodeFrame p c v)
      = (encodeFrame p c v).b0 ++ ((encodeFrame p c v).b1 ++ (encodeFrame p c v).b2) :=
        BitVec.append_assoc
    _ = frameWord (encodeFrame p c v).b0 v := by rw [hv]; rfl

theorem frameNumber_encodeFrame_eq_frameFields :
    frameNumber (encodeFrame p c v) = frameFields p c v := by
  rw [frameNumber_encodeFrame, encodeFrame_b0]
  rfl

end Bytes

/-- Settles O7: a frame as one number is the frame word of its byte 0 and the value. -/
theorem frameNumberIsBigEndian : Obligations.FrameNumberIsBigEndian := by
  intro p c v
  refine ⟨frameNumber_encodeFrame_eq_frameFields p c v, ?_, ?_, encodeFrame_b0 p c v,
    encodeFrame_b1 p c v, encodeFrame_b2 p c v⟩
  · rw [frameNumber_encodeFrame, frameWord_eq_shiftLeft_or]
  · rw [frameNumber_encodeFrame]
    exact immField_frameWord _ v

/-! ### What an operation appends -/

@[simp] theorem State.enabled_trace (a1 a2 a3 a4 a5 a6 a7 : LineAnswer) :
    (s.enabled a1 a2 a3 a4 a5 a6 a7).trace = s.trace ++ enableEvents := by
  simp [State.enabled, State.enableWaited, State.enableHalf, enableEvents]

@[simp] theorem State.enabled_responses (a1 a2 a3 a4 a5 a6 a7 : LineAnswer) :
    (s.enabled a1 a2 a3 a4 a5 a6 a7).responses = s.responses ++ [.ok 0#24] := by
  simp [State.enabled, State.enableWaited, State.enableHalf]

@[simp] theorem State.writeClosed_trace (c : Channel) (v : Value) (b : BusAnswer)
    (a1 a2 a3 a4 : LineAnswer) : (s.writeClosed p c v b a1 a2 a3 a4).trace =
      s.trace ++ transferEvents (.bus (encodeFrame p c v)) := by
  simp [State.writeClosed, State.writeOpened, transferEvents]

@[simp] theorem State.writeClosed_responses (c : Channel) (v : Value) (b : BusAnswer)
    (a1 a2 a3 a4 : LineAnswer) : (s.writeClosed p c v b a1 a2 a3 a4).responses =
      s.responses ++ [if b = BusAnswer.ok then .ok 0#24 else .busWriteError] := by
  simp [State.writeClosed, State.writeOpened]

@[simp] theorem State.prepareClosed_trace (c : Channel) (v : Value) (b : InitiatorAnswer)
    (a1 a2 a3 a4 : LineAnswer) : (s.prepareClosed p c v b a1 a2 a3 a4).trace =
      s.trace ++ transferEvents (.init (encodeFrame p c v)) := by
  simp [State.prepareClosed, State.prepareOpened, transferEvents]

@[simp] theorem State.prepareClosed_responses (c : Channel) (v : Value) (b : InitiatorAnswer)
    (a1 a2 a3 a4 : LineAnswer) :
    (s.prepareClosed p c v b a1 a2 a3 a4).responses = s.responses ++ [.ok 0#24] := by
  simp [State.prepareClosed, State.prepareOpened]

/-! ### The past is kept -/

/-- The events and the responses of `s` stand at the head of those of `t`, as they were. -/
def State.HistoryKept (s t : State) : Prop := s.trace <+: t.trace ∧ s.responses <+: t.responses

/-- A history is kept by what appends to it. -/
theorem State.historyKept_of_append {es : List Event} {rs : List Response}
    (he : t.trace = s.trace ++ es) (hr : t.responses = s.responses ++ rs) : s.HistoryKept t :=
  ⟨⟨es, he.symm⟩, ⟨rs, hr.symm⟩⟩

/-- A history is kept by what leaves it alone. -/
theorem State.historyKept_of_eq (he : t.trace = s.trace) (hr : t.responses = s.responses) :
    s.HistoryKept t :=
  State.historyKept_of_append (es := []) (rs := []) (by simp [he]) (by simp [hr])

/-- A step of the sequencer gives at most one response. -/
theorem State.advance_responses (h : s.advance p = .next t) :
    ∃ rs, t.responses = s.responses ++ rs ∧ rs.length ≤ 1 := by
  cases State.advance_advanced h with
  | rests | drives | waits | builds | writes | initiates => exact ⟨[], by simp⟩
  | activates | reports => exact ⟨[_], rfl, le_rfl⟩
  | closes => exact ⟨[_], by simp; rfl⟩

theorem State.advance_historyKept (h : s.advance p = .next t) : s.HistoryKept t := by
  obtain ⟨es, hes, -⟩ := State.advance_trace h
  obtain ⟨rs, hrs, -⟩ := State.advance_responses h
  exact State.historyKept_of_append hes hrs

/-- The three sequences append events and a response, an answer a response only, and a frame row and
`CONSTRUCT` nothing. -/
theorem exec_historyKept {i : Instr} (h : exec i s = .next t) : s.HistoryKept t := by
  cases exec_effect h with
  | recognises | constructs => exact State.historyKept_of_eq rfl rfl
  | answers => exact State.historyKept_of_append (es := []) (by simp) (State.respond_responses ..)
  | enables =>
    exact State.historyKept_of_append (State.enabled_trace ..) (State.enabled_responses ..)
  | writes =>
    exact State.historyKept_of_append (State.writeClosed_trace ..) (State.writeClosed_responses ..)
  | prepares =>
    exact State.historyKept_of_append (State.prepareClosed_trace ..)
      (State.prepareClosed_responses ..)

/-- Settles O50: an instruction and a step of the sequencer append, and what comes from outside leaves
the history alone. -/
theorem stepsOnlyAppend : Obligations.StepsOnlyAppend := by
  intro s t h
  rcases step_next h with ⟨i, -, -, he⟩ | ⟨-, f, rfl⟩ | ⟨-, rfl⟩ | ⟨-, rfl⟩ | ⟨-, hadv⟩
  · exact exec_historyKept (s := s.takeInput) he
  · exact State.historyKept_of_eq rfl rfl
  · exact State.historyKept_of_eq rfl rfl
  · exact State.historyKept_of_eq rfl rfl
  · exact State.advance_historyKept hadv

end Sys2Proof.Machine

/-!
The family 30_encoding: the encoder and the decoder undo each other in each of the three spaces, and what
that makes of request words, frame words and the frames the block emits (30_encoding.md rules R50 to R64).

The idea: the two directions of the round trip are proved once, from the fields of a word. A frame row
is the encoding of its channel and value, so the recogniser of frames, the disjointness of the two
24-bit spaces, and the frames of the trace are read off the round trip.
-/

namespace Sys2Proof

/-! ### Decoding a word put together from fields -/

/-- The id of a channel in `ch` names it again (30_encoding.md rule R57). -/
@[simp] theorem withChannel_reqWord (op : BitVec 4) (c : Channel) (v : Value)
    (mk : Channel → Value → Instr) : withChannel (reqWord op (channelId c) v) mk = .ok (mk c v) := by
  simp [withChannel]

/-- An index that fits `imm` is not cut (30_encoding.md rule R56). -/
theorem decode_encode_fromIndex {n : Nat} (h : n < 65536) :
    decode (encode (.fromIndex n)) = .ok (.fromIndex n) := by
  simp [decode, encode, decodeReq24, Nat.mod_eq_of_lt h]

theorem decode_encode_frameRow (c : Channel) (v : Value) :
    decode (encode (Machine.frameRow c v)) = .ok (Machine.frameRow c v) := by
  cases c <;> simp [Machine.frameRow, decode, encode, decodeFrame24]

/-! ### The word of a decoding -/

theorem reqWord_of_fields {w : Word24} {op ch : BitVec 4} {imm : BitVec 16}
    (ho : (opField w).toNat = op.toNat) (hc : chField w = ch) (hi : immField w = imm) :
    reqWord op ch imm = w := by
  rw [← BitVec.eq_of_toNat_eq ho, ← hc, ← hi, reqWord_fields]

theorem frameWord_of_head {w : Word24} {b : Byte} (h : (headField w).toNat = b.toNat) :
    frameWord b (immField w) = w := by
  rw [← BitVec.eq_of_toNat_eq h, frameWord_fields]

/-- Everything a channel field can give (30_encoding.md rules R57, R60). -/
theorem withChannel_ok {w : Word24} {mk : Channel → Value → Instr} {i : Instr}
    (h : withChannel w mk = .ok i) : ∃ c, chField w = channelId c ∧ i = mk c (immField w) := by
  unfold withChannel at h
  split at h
  next c hc =>
    exact ⟨c, BitVec.eq_of_toNat_eq (channelId_of_channelOfId hc), (Except.ok.inj h).symm⟩
  next => cases h

theorem encode_of_decodeReq24 {w : Word24} {i : Instr} (h : decodeReq24 w = .ok i) :
    WellFormed i ∧ encode i = .req24 w := by
  unfold decodeReq24 at h
  split at h
  next hop =>
    split at h
    next hz =>
      cases h
      exact ⟨rfl, congrArg CodeWord.req24 (reqWord_of_fields hop hz.1 hz.2)⟩
    next => cases h
  next hop =>
    obtain ⟨c, hc, rfl⟩ := withChannel_ok h
    exact ⟨rfl, congrArg CodeWord.req24 (reqWord_of_fields hop hc rfl)⟩
  next hop =>
    obtain ⟨c, hc, rfl⟩ := withChannel_ok h
    exact ⟨rfl, congrArg CodeWord.req24 (reqWord_of_fields hop hc rfl)⟩
  next hop =>
    split at h
    next hz =>
      cases h
      exact ⟨decide_eq_true (immField w).isLt,
        congrArg CodeWord.req24 (reqWord_of_fields hop hz (by simp))⟩
    next => cases h
  next hop =>
    obtain ⟨c, hc, rfl⟩ := withChannel_ok h
    exact ⟨rfl, congrArg CodeWord.req24 (reqWord_of_fields hop hc rfl)⟩
  next => cases h

theorem encode_of_decodeFrame24 {w : Word24} {i : Instr} (h : decodeFrame24 w = .ok i) :
    WellFormed i ∧ encode i = .frame24 w := by
  unfold decodeFrame24 at h
  split at h <;> cases h
  all_goals
    rename_i hhead
    exact ⟨rfl, congrArg CodeWord.frame24 (frameWord_of_head hhead)⟩

theorem encode_of_decodeRst1 {b : BitVec 1} {i : Instr} (h : decodeRst1 b = .ok i) :
    WellFormed i ∧ encode i = .rst1 b := by
  unfold decodeRst1 at h
  split at h
  next hb =>
    cases h
    exact ⟨rfl, congrArg CodeWord.rst1 hb.symm⟩
  next => cases h

/-! ### The words that name no operation -/

/-- The frame space has one reason to refuse a word (30_encoding.md rule R58). -/
theorem decode_frame24_error {w : Word24} {e : WordError} (h : decode (.frame24 w) = .error e) :
    e = .frameNeverEmitted := by
  change decodeFrame24 w = _ at h
  unfold decodeFrame24 at h
  split at h <;> cases h
  rfl

theorem decodeReq24_reserved {w : Word24} (h : opField w = 0x0#4 ∨ 0x6 ≤ (opField w).toNat) :
    decodeReq24 w = .error .reservedOperation := by
  have hop : (opField w).toNat = 0 ∨ 6 ≤ (opField w).toNat := h.imp_left fun h0 => by rw [h0]; rfl
  unfold decodeReq24
  split
  case h_6 => rfl
  all_goals omega

theorem withChannel_noSuchChannel {w : Word24} (h : 5 ≤ (chField w).toNat)
    (mk : Channel → Value → Instr) : withChannel w mk = .error .noSuchChannel := by
  simp [withChannel, channelOfId_none.2 h]

theorem decodeReq24_noSuchChannel {w : Word24}
    (hop : opField w = 0x2#4 ∨ opField w = 0x3#4 ∨ opField w = 0x5#4) (h : 5 ≤ (chField w).toNat) :
    decodeReq24 w = .error .noSuchChannel := by
  rcases hop with hop | hop | hop <;> simp [decodeReq24, hop, withChannel_noSuchChannel h]

theorem decodeReq24_enable_mustBeZero {w : Word24} (hop : opField w = 0x1#4)
    (h : chField w ≠ 0#4 ∨ immField w ≠ 0#16) : decodeReq24 w = .error .mustBeZero := by
  simp only [decodeReq24, hop]
  exact if_neg (not_and_or.2 h)

theorem decodeReq24_fromIndex_mustBeZero {w : Word24} (hop : opField w = 0x4#4)
    (h : chField w ≠ 0#4) : decodeReq24 w = .error .mustBeZero := by
  simp only [decodeReq24, hop]
  exact if_neg h

end Sys2Proof

namespace Sys2Proof.Machine

variable {s t : State}

/-! ### The round trip -/

/-- Settles O1: each row's fields are read back as they were put into its word. -/
theorem decodeOfEncodeIsTheInstruction : Obligations.DecodeOfEncodeIsTheInstruction := by
  intro i hi
  cases i with
  | frameA v => exact decode_encode_frameRow .A v
  | frameB v => exact decode_encode_frameRow .B v
  | frameC v => exact decode_encode_frameRow .C v
  | frameD v => exact decode_encode_frameRow .D v
  | frameAll v => exact decode_encode_frameRow .All v
  | fromIndex n => exact decode_encode_fromIndex (of_decide_eq_true hi)
  | enable | writeBlocking c v | prepareTransfer c v | encode c v =>
    simp [Sys2Proof.encode, decode, decodeReq24]
  | construct => rfl

/-- Settles O2: one lemma for each space. -/
theorem encodeOfDecodeIsTheWord : Obligations.EncodeOfDecodeIsTheWord := by
  intro x i h
  cases x with
  | req24 w => exact encode_of_decodeReq24 h
  | frame24 w => exact encode_of_decodeFrame24 h
  | rst1 b => exact encode_of_decodeRst1 h

/-- Settles O5: each sample word is the encoding of its instruction, bit by bit. -/
theorem sampleWordsDecode : Obligations.SampleWordsDecode :=
  ⟨decodeOfEncodeIsTheInstruction .enable rfl,
    decodeOfEncodeIsTheInstruction (.writeBlocking .All 0x0000#16) rfl,
    decodeOfEncodeIsTheInstruction (.prepareTransfer .B 0x1234#16) rfl,
    decodeOfEncodeIsTheInstruction (.fromIndex 4) rfl,
    decodeOfEncodeIsTheInstruction (.encode .All 0xFFFF#16) rfl,
    decodeOfEncodeIsTheInstruction (.frameB 0x1234#16) rfl,
    decodeOfEncodeIsTheInstruction (.frameAll 0xFFFF#16) rfl,
    decodeOfEncodeIsTheInstruction .construct rfl⟩

/-! ### Frame rows and frames -/

/-- The word of a frame row is the frame of its channel and value (30_encoding.md rule R54,
40_frame_encoder.md rule R70). -/
theorem encode_frameRow (c : Channel) (v : Value) :
    encode (frameRow c v) = .frame24 (frameNumber (encodeFrame specParams c v)) := by
  rw [frameNumber_encodeFrame]
  cases c <;> rfl

theorem decode_frameNumber_encodeFrame (c : Channel) (v : Value) :
    decode (.frame24 (frameNumber (encodeFrame specParams c v))) = .ok (frameRow c v) :=
  encode_frameRow c v ▸ decode_encode_frameRow c v

theorem decode_frame24_iff {w : Word24} {i : Instr} : decode (.frame24 w) = .ok i ↔
    ∃ c v, w = frameNumber (encodeFrame specParams c v) ∧ i = frameRow c v := by
  constructor
  · intro h
    obtain ⟨c, v, rfl⟩ := decode_frame24_row h
    have hw := (encodeOfDecodeIsTheWord _ _ h).2
    exact ⟨c, v, CodeWord.frame24.inj (hw.symm.trans (encode_frameRow c v)), rfl⟩
  · rintro ⟨c, v, rfl, rfl⟩
    exact decode_frameNumber_encodeFrame c v

theorem decode_frame24_neverEmitted {w : Word24}
    (h : ∀ c v, w ≠ frameNumber (encodeFrame specParams c v)) :
    decode (.frame24 w) = .error .frameNeverEmitted := by
  cases hd : decode (.frame24 w) with
  | ok i =>
    obtain ⟨c, v, hw, -⟩ := decode_frame24_iff.1 hd
    exact absurd hw (h c v)
  | error e => rw [decode_frame24_error hd]

/-- Settles O4: the round trip in the frame space. -/
theorem frameRowsAreExactlyTheEncodings : Obligations.FrameRowsAreExactlyTheEncodings :=
  fun _ => ⟨fun _ => decode_frame24_iff, decode_frame24_neverEmitted⟩

/-- Settles O11: what a frame row is, for each of the five channels. -/
theorem frameRowsAreRecognised : Obligations.FrameRowsAreRecognised := by
  intro v s
  have row : ∀ c, exec (frameRow c v) s = .next { s with verdicts := s.verdicts ++ [some (c, v)] } ∧
      encode (frameRow c v) = .frame24 (frameNumber (encodeFrame specParams c v)) :=
    fun c => ⟨exec_frameRow c v s, encode_frameRow c v⟩
  exact ⟨row .A, row .B, row .C, row .D, row .All⟩

/-- The fixed bits of byte 0 and the selector code share no bit. -/
theorem framePrefix_and_sel (p : Params) (c : Channel) :
    framePrefix &&& (sel p c).setWidth 8 = 0#8 := by
  change (0b0001#4 ++ 0b0000#4) &&& (sel p c).setWidth 8 = _
  rw [BitVec.setWidth_eq_append (by decide)]
  refine BitVec.and_append.trans ?_
  simp

/-- Settles O6: byte 0 is two nibbles side by side, bytes 1 and 2 are the two halves of the value. -/
theorem frameBytesAreAssembled : Obligations.FrameBytesAreAssembled := by
  intro p c v
  refine ⟨rfl, ?_, ?_, ?_, rfl, rfl, ?_⟩
  · exact (BitVec.add_eq_or_of_and_eq_zero _ _ (framePrefix_and_sel p c)).symm
  · rw [encodeFrame_b0]
    exact BitVec.extractLsb'_append_eq_left
  · rw [encodeFrame_b0]
    exact BitVec.extractLsb'_append_eq_right
  · rw [← BitVec.setWidth_append_eq_shiftLeft_setWidth_or, encodeFrame_b1, encodeFrame_b2]
    exact (BitVec.setWidth_eq _).trans BitVec.extractLsb'_append_extractLsb'

/-! ### What a step does with the next input -/

theorem State.takeInput_of_cons {x : Input} {rest : List Input} (h : s.inputs = x :: rest) :
    s.takeInput = { s with inputs := rest } := by
  simp [State.takeInput, h]

/-- An idle block refuses a request word that names no operation, with the decoder's reason
(30_encoding.md rule R59). -/
theorem step_refused_of_decode {w : Word24} {e : WordError} (hs : s.seq = .idle)
    (hw : s.inputs.head? = some (.request w)) (hd : decodeReq24 w = .error e) :
    step s = .refused (.badWord e) := by
  obtain ⟨rest, hin⟩ := List.head?_eq_some_iff.1 hw
  simp [step, State.fetch, hin, hs, State.present, decode, hd]

/-- Settles O3: the decoder's four refusals, handed on by the step. -/
theorem wordsOfNoOperationAreRefused : Obligations.WordsOfNoOperationAreRefused :=
  fun _ _ hs hw =>
    ⟨fun hop => step_refused_of_decode hs hw (decodeReq24_reserved hop),
      fun hop hc => step_refused_of_decode hs hw (decodeReq24_noSuchChannel hop hc),
      fun hop hz => step_refused_of_decode hs hw (decodeReq24_enable_mustBeZero hop hz),
      fun hop hz => step_refused_of_decode hs hw (decodeReq24_fromIndex_mustBeZero hop hz)⟩

/-- A word of the frame space that is a row's frame gives that row's verdict. -/
theorem step_frameSeen_row {w : Word24} {rest : List Input} {c : Channel} {v : Value}
    (h : s.inputs = .frameSeen w :: rest) (hd : decode (.frame24 w) = .ok (frameRow c v)) :
    step s = .next ({ s with inputs := rest }.noteFrame (some (c, v))) := by
  simp [step, State.fetch, h, State.seeFrame, hd, exec_frameRow, State.takeInput_of_cons h]

theorem step_frameSeen_refused {w : Word24} {rest : List Input} {e : WordError}
    (h : s.inputs = .frameSeen w :: rest) (hd : decode (.frame24 w) = .error e) :
    step s = .next ({ s with inputs := rest }.noteFrame none) := by
  simp [step, State.fetch, h, State.seeFrame, hd, State.takeInput_of_cons h]

/-- What is written in another space than the frame space is no frame row (30_encoding.md rule R50). -/
theorem isOperation_of_decode {x : CodeWord} {i : Instr} (hx : ∀ w, x ≠ .frame24 w)
    (h : decode x = .ok i) : IsOperation i := by
  rintro c v rfl
  exact hx _ ((encodeOfDecodeIsTheWord _ _ h).2.symm.trans (encode_frameRow c v))

/-- Settles O12: an operation's word stands in its own space, and the decoder of frames writes only its
verdict. -/
theorem frameWordsAreNeverRequests : Obligations.FrameWordsAreNeverRequests := by
  refine ⟨fun w i => isOperation_of_decode nofun, fun b i => isOperation_of_decode nofun, ?_⟩
  intro s w rest h
  constructor
  · rintro c v rfl
    exact step_frameSeen_row h (decode_frameNumber_encodeFrame c v)
  · intro hw
    exact step_frameSeen_refused h (decode_frame24_neverEmitted hw)

/-- Settles O46: the head of the inputs decides which of the three it is. -/
theorem stepWithoutAnInstruction : Obligations.StepWithoutAnInstruction := by
  intro s rest f
  refine ⟨fun hs h => ?_, fun h => ?_, fun h => ?_⟩
  · simp [step, State.fetch, h, State.advance, hs]
  · simp [step, State.fetch, h, State.takeInput_of_cons h]
  · simp [step, State.fetch, h, State.takeInput_of_cons h, State.frameOut]

/-! ### The response of each operation -/

@[simp] theorem expectedResponses_frameRow (a : Bool) (b : Reply BusAnswer) (c : Channel) (v : Value) :
    expectedResponses a b (frameRow c v) = [] := by
  cases c <;> rfl

/-- The index map answers an index below 4 with its own number, and no other (41_channel_selector.md
rule R81). -/
theorem expectedResponses_fromIndex (a : Bool) (b : Reply BusAnswer) (n : Nat) :
    expectedResponses a b (.fromIndex n) = [match channelOfIndex n with
      | some c => .ok (channelReturn c)
      | none => .invalidIndex] := by
  rcases n with _ | _ | _ | _ | n
  case succ.succ.succ.succ => simp [expectedResponses, channelOfIndex]
  all_goals rfl

/-- Settles O37: one case for each instruction. -/
theorem everyOperationAnswersByTheTable : Obligations.EveryOperationAnswersByTheTable := by
  intro i s t h
  have row : ∀ c v, exec (frameRow c v) s = .next t →
      t.responses = s.responses ++ expectedResponses s.active s.busReply (frameRow c v) := by
    intro c v h
    rw [exec_frameRow] at h
    simp [← Host.Outcome.next.inj h]
  cases i with
  | frameA v => exact row .A v h
  | frameB v => exact row .B v h
  | frameC v => exact row .C v h
  | frameD v => exact row .D v h
  | frameAll v => exact row .All v h
  | enable =>
    obtain ⟨-, -, a1, a2, a3, a4, a5, a6, a7, rfl⟩ := exec_enable_next h
    exact State.enabled_responses ..
  | writeBlocking c v =>
    obtain ⟨-, -, ⟨ha, rfl⟩ | ⟨ha, b, a1, a2, a3, a4, hb, rfl⟩⟩ := exec_write_next h
    · simp [expectedResponses, ha]
    · cases b <;> simp [expectedResponses, ha, hb]
  | prepareTransfer c v =>
    obtain ⟨-, -, ⟨-, rfl⟩ | ⟨-, b, a1, a2, a3, a4, -, rfl⟩⟩ := exec_prepare_next h
    · rfl
    · exact State.prepareClosed_responses ..
  | fromIndex n =>
    obtain ⟨-, -, rfl⟩ := exec_fromIndex_next h
    rw [expectedResponses_fromIndex]
    rfl
  | encode c v =>
    obtain ⟨-, -, rfl⟩ := exec_encode_next h
    rw [frameNumber_encodeFrame_eq_frameFields]
    rfl
  | construct =>
    obtain ⟨-, rfl⟩ := exec_construct_next h
    simp [expectedResponses]

/-! ### The frames the block emits -/

/-- Every frame among these events, on the bus or handed to the initiator, is one of the five rows. -/
def OnlyRows (es : List Event) : Prop :=
  (∀ f ∈ busTrace es, Emittable f) ∧ ∀ f ∈ initiatorCalls es, Emittable f

theorem State.emitsOnlyRows_iff : s.EmitsOnlyRows ↔ OnlyRows s.trace := Iff.rfl

theorem onlyRows_append {es es' : List Event} : OnlyRows (es ++ es') ↔ OnlyRows es ∧ OnlyRows es' := by
  simp only [OnlyRows, busTrace, initiatorCalls, List.filterMap_append, List.forall_mem_append]
  exact and_and_and_comm

/-- What the encoder makes is one of the five rows (30_encoding.md rule R58). -/
theorem emittable_encodeFrame (c : Channel) (v : Value) : Emittable (encodeFrame specParams c v) :=
  ⟨frameRow c v, decode_frameNumber_encodeFrame c v⟩

theorem onlyRows_enableEvents : OnlyRows enableEvents := ⟨nofun, nofun⟩

theorem onlyRows_bus {f : Frame} : OnlyRows [.bus f] ↔ Emittable f := by
  simp [OnlyRows, busTrace, initiatorCalls]

theorem onlyRows_init {f : Frame} : OnlyRows [.init f] ↔ Emittable f := by
  simp [OnlyRows, busTrace, initiatorCalls]

/-- Around the middle event of a transfer there are line events only. -/
theorem onlyRows_transferEvents {e : Event} : OnlyRows (transferEvents e) ↔ OnlyRows [e] := by
  cases e <;> simp [OnlyRows, busTrace, initiatorCalls, transferEvents]

/-- What `t` has emitted beyond what `s` had are rows. -/
def State.AppendsRows (s t : State) : Prop := ∃ es, t.trace = s.trace ++ es ∧ OnlyRows es

theorem State.appendsRows_of_eq (h : t.trace = s.trace) : s.AppendsRows t :=
  ⟨[], by simp [h], nofun, nofun⟩

/-- From the step that builds it on, the frame of a transfer is the encoding of its operands. -/
theorem State.emittable_frame {answered : Bool} {f : Frame} (h : s.LatchesFit specParams)
    (hq : seqHolds s.seq = some (true, answered)) (hf : s.frame = some f) : Emittable f := by
  obtain ⟨-, -, -, c, v, -, -, hcv⟩ := State.transferLatches_of_holds h hq
  rw [if_pos rfl, hf] at hcv
  exact Option.some.inj hcv ▸ emittable_encodeFrame c v

/-- A consistent step of the sequencer emits only the frame it holds. -/
theorem State.advance_appendsRows (h : s.LatchesFit specParams) (ht : s.advance specParams = .next t) :
    s.AppendsRows t := by
  rcases State.advance_next ht with ⟨-, rfl⟩ | ⟨l, x, a, q, -, rfl⟩ | ⟨q, rfl⟩ |
    ⟨c, v, q, -, -, rfl⟩ | ⟨f, a, hq, hf, -, rfl⟩ | ⟨f, a, hq, hf, -, rfl⟩ | ⟨-, rfl⟩ |
    ⟨a, -, -, rfl⟩ | ⟨a, -, -, rfl⟩
  · exact State.appendsRows_of_eq rfl
  · exact ⟨[.line l x], State.driven_trace .., nofun, nofun⟩
  · exact ⟨[.wait], rfl, nofun, nofun⟩
  · exact State.appendsRows_of_eq rfl
  · have hrow : Emittable f := State.emittable_frame (answered := false) h (by rw [hq]; rfl) hf
    exact ⟨[.bus f], State.written_trace .., onlyRows_bus.2 hrow⟩
  · have hrow : Emittable f := State.emittable_frame (answered := false) h (by rw [hq]; rfl) hf
    exact ⟨[.init f], State.initiated_trace .., onlyRows_init.2 hrow⟩
  · exact State.appendsRows_of_eq rfl
  · exact State.appendsRows_of_eq rfl
  · exact ⟨[.line .EN .high], State.driven_trace s .EN .high a .idle, nofun, nofun⟩

/-- An instruction emits the encoding of its own operands, or no frame at all. -/
theorem exec_appendsRows {i : Instr} (h : exec i s = .next t) : s.AppendsRows t := by
  cases exec_effect h with
  | recognises | answers | constructs => exact State.appendsRows_of_eq rfl
  | enables => exact ⟨_, State.enabled_trace .., onlyRows_enableEvents⟩
  | writes hs c v =>
    exact ⟨_, State.writeClosed_trace ..,
      onlyRows_transferEvents.2 (onlyRows_bus.2 (emittable_encodeFrame c v))⟩
  | prepares hs c v =>
    exact ⟨_, State.prepareClosed_trace ..,
      onlyRows_transferEvents.2 (onlyRows_init.2 (emittable_encodeFrame c v))⟩

theorem step_appendsRows (h : s.Consistent specParams) (ht : step s = .next t) : s.AppendsRows t := by
  rcases step_next ht with ⟨i, -, -, he⟩ | ⟨-, f, rfl⟩ | ⟨-, rfl⟩ | ⟨-, rfl⟩ | ⟨-, hadv⟩
  · exact exec_appendsRows (s := s.takeInput) he
  · exact State.appendsRows_of_eq rfl
  · exact State.appendsRows_of_eq rfl
  · exact State.appendsRows_of_eq rfl
  · exact State.advance_appendsRows h.1 hadv

/-- Settles O54: a step appends to the trace, and only rows. -/
theorem stepKeepsEmittedFramesInTheRows : Obligations.StepKeepsEmittedFramesInTheRows := by
  intro s t h hrows ht
  obtain ⟨es, htrace, hes⟩ := step_appendsRows h ht
  rw [State.emitsOnlyRows_iff, htrace]
  exact onlyRows_append.2 ⟨hrows, hes⟩

end Sys2Proof.Machine

/-!
The family 40_frame_encoder: what a frame tells of its operands, and the operation that answers with it
(40_frame_encoder.md rules R70 to R74).

The idea: the value and the selector code are read back from the frame, each by the field that holds it;
what can be read back cannot differ between two equal frames.
-/

namespace Sys2Proof.Machine

/-! ### Reading the operands back -/

theorem immField_frameNumber_encodeFrame (p : Params) (c : Channel) (v : Value) :
    immField (frameNumber (encodeFrame p c v)) = v := by
  rw [frameNumber_encodeFrame, immField_frameWord]

theorem selField_encodeFrame (p : Params) (c : Channel) (v : Value) :
    (encodeFrame p c v).b0.extractLsb' 0 4 = sel p c := by
  rw [encodeFrame_b0]
  exact BitVec.extractLsb'_append_eq_right

/-- Distinct codes name distinct channels (41_channel_selector.md rule R85). -/
theorem sel_injective {p : Params} (hp : paramsAdmitted p) : Function.Injective (sel p) := by
  have hcodes : ([.A, .B, .C, .D, .All].map (sel p)).Nodup := hp.1
  have hall : ∀ c : Channel, c ∈ [.A, .B, .C, .D, .All] := fun c => by cases c <;> decide
  exact fun c c' h => List.inj_on_of_nodup_map hcodes (hall c) (hall c') h

/-- Settles O8: the frame holds the value and the selector code, and both can be read back. -/
theorem frameEncodingIsInjective : Obligations.FrameEncodingIsInjective := by
  intro p c c' v v' h
  constructor
  · calc v = immField (frameNumber (encodeFrame p c v)) :=
          (immField_frameNumber_encodeFrame p c v).symm
      _ = immField (frameNumber (encodeFrame p c' v')) := by rw [h]
      _ = v' := immField_frameNumber_encodeFrame p c' v'
  · intro hp
    have hsel : sel p c = sel p c' := by
      rw [← selField_encodeFrame p c v, h, selField_encodeFrame]
    exact sel_injective hp hsel

/-! ### The operation -/

/-- A ready block passes both tests of `ENCODE`; the operands it latches are gone with the response. -/
theorem exec_encode_of_ready {s : State} (h : s.Ready) (c : Channel) (v : Value) :
    exec (.encode c v) s = .next (s.respond (.ok (frameNumber (encodeFrame specParams c v)))) :=
  State.whenReady_ready h _

/-- Settles O10: on a ready block the response is all that an answer changes. -/
theorem encodeAnswersTheFrame : Obligations.EncodeAnswersTheFrame := by
  intro c v s h
  rw [exec_encode_of_ready h, State.respond_of_ready h]

end Sys2Proof.Machine

/-!
The family 41_channel_selector: the index map, the operation that answers with it, and the selector codes
(41_channel_selector.md rules R80 to R85).

The idea: the index of a channel is its id (30_encoding.md rule R57), so the index map is the reading of
ids without All, and an index that names no channel is one that is not below 4.
-/

namespace Sys2Proof.Machine

/-! ### The index map -/

theorem channelOfIndex_of_four_le {i : Nat} (h : 4 ≤ i) : channelOfIndex i = none := by
  have h0 : i ≠ 0 ∧ i ≠ 1 ∧ i ≠ 2 ∧ i ≠ 3 := by omega
  simp [channelOfIndex, h0]

/-- The one index of a channel is its id, and All has none. -/
theorem channelOfIndex_eq_some_iff {i : Nat} {c : Channel} :
    channelOfIndex i = some c ↔ c ≠ .All ∧ i = (channelId c).toNat := by
  constructor
  · intro h
    rcases i with _ | _ | _ | _ | n
    case succ.succ.succ.succ =>
      rw [channelOfIndex_of_four_le (Nat.le_add_left 4 n)] at h
      cases h
    all_goals cases h; decide
  · rintro ⟨hc, rfl⟩
    cases c with
    | A | B | C | D => rfl
    | All => exact absurd rfl hc

theorem channelOfIndex_isSome_iff {i : Nat} : (channelOfIndex i).isSome ↔ i < 4 := by
  constructor
  · intro h
    by_contra hi
    rw [channelOfIndex_of_four_le (not_lt.1 hi)] at h
    cases h
  · intro h
    interval_cases i <;> rfl

/-- Settles O14: the inverse of the index map on the four channels is the channel's id. -/
theorem indexMapIsOntoTheFourChannels : Obligations.IndexMapIsOntoTheFourChannels :=
  ⟨fun _ h => (channelOfIndex_eq_some_iff.1 h).1 rfl, fun _ => channelOfIndex_isSome_iff,
    fun c hc => ⟨(channelId c).toNat, channelOfIndex_eq_some_iff.2 ⟨hc, rfl⟩,
      fun _ h => (channelOfIndex_eq_some_iff.1 h).2⟩⟩

/-! ### The operation -/

section FromIndex

variable {s : State} {i : Nat}

/-- A ready block answers an index that names a channel with the channel's id. -/
theorem exec_fromIndex_of_some {c : Channel} (h : s.Ready) (hc : channelOfIndex i = some c) :
    exec (.fromIndex i) s = .next (s.respond (.ok (channelReturn c))) := by
  refine (State.whenReady_ready h _).trans ?_
  simp only [State.answerIndex, State.latchIndex_opIdx, hc]
  rfl

/-- Under the default of D5 a ready block answers an index that names no channel, and does not halt
(41_channel_selector.md rule R83). -/
theorem exec_fromIndex_of_none (h : s.Ready) (hc : channelOfIndex i = none) :
    exec (.fromIndex i) s = .next (s.respond .invalidIndex) := by
  refine (State.whenReady_ready h _).trans ?_
  simp only [State.answerIndex, State.latchIndex_opIdx, hc]
  rfl

end FromIndex

/-- Settles O13: the four indices that name a channel one by one, then all the others. -/
theorem fromIndexAnswersOrFaults : Obligations.FromIndexAnswersOrFaults := by
  intro i s h
  rw [← State.respond_of_ready h]
  rcases i with _ | _ | _ | _ | n
  case zero => exact exec_fromIndex_of_some h rfl
  case succ.zero => exact exec_fromIndex_of_some h rfl
  case succ.succ.zero => exact exec_fromIndex_of_some h rfl
  case succ.succ.succ.zero => exact exec_fromIndex_of_some h rfl
  case succ.succ.succ.succ =>
    exact exec_fromIndex_of_none h (channelOfIndex_of_four_le (Nat.le_add_left 4 n))

/-! ### The selector codes -/

/-- The spec's own parameters meet the constraints of 41_channel_selector.md rule R85, and their wait is
one more than a free number (42_busy_wait.md rule R90). -/
theorem specParams_admitted : paramsAdmitted specParams :=
  ⟨by decide, Nat.le_add_left 1 Config.waitItersLessOne⟩

/-- Settles O9: the codes are read off the spec's parameters. -/
theorem selectorCodesAreAdmitted : Obligations.SelectorCodesAreAdmitted :=
  ⟨specParams_admitted, rfl, rfl, rfl, rfl, rfl⟩

end Sys2Proof.Machine

/-!
The family 42_busy_wait: where the busy-wait occurs (42_busy_wait.md rules R90 to R93).

The idea: a wait shows in the trace only, so the waits of an operation are counted in the events it
appends: two in those of the handshake, none in those of a transfer, and no other operation appends any.
-/

namespace Sys2Proof.Machine

theorem count_wait_enableEvents : enableEvents.count .wait = 2 := by decide

/-- Around the middle event of a transfer there are line events only. -/
theorem count_wait_transferEvents {e : Event} (he : e ≠ .wait) :
    (transferEvents e).count .wait = 0 := by
  simp [transferEvents, List.count_eq_zero, he.symm]

/-- Settles O41: one case for each effect of an instruction, by the events it appends. -/
theorem waitsAreTwoPerEnable : Obligations.WaitsAreTwoPerEnable := by
  intro i s t h
  cases exec_effect h with
  | recognises i c v hi =>
    have hrow : i ≠ .enable := hi ▸ (frameRow_not_operation c v).1
    rw [if_neg hrow]
    rfl
  | answers i r hs hr hc he =>
    rw [if_neg he]
    rfl
  | constructs => rfl
  | enables =>
    rw [State.enabled_trace, List.count_append, count_wait_enableEvents, if_pos rfl]
  | writes | prepares =>
    simp [count_wait_transferEvents]

end Sys2Proof.Machine

/-!
The family 43_lifecycle: `CONSTRUCT` and `ENABLE`, and what only they do (43_lifecycle.md rules R95 to
R104).

The idea: the handshake is followed twice. Step by step along the table of the sequencer, each step
appends the next of the nine events until the tenth sets `active` (`State.HandshakeAt`); and as a whole,
its next state is the one it found but for the fields named in `State.enabled_eq`.
-/

namespace Sys2Proof.Machine

variable {p : Params} {s t u : State}

/-! ### `CONSTRUCT` -/

theorem exec_construct_of_idle (h : s.seq = .idle) : exec .construct s = .next s.construct :=
  if_neg (not_not.2 h)

/-- Settles O16: on an idle block the position that `CONSTRUCT` leaves is the one it found. -/
theorem constructLeavesUninitialized : Obligations.ConstructLeavesUninitialized := by
  intro s h
  rw [exec_construct_of_idle h]
  cases s
  cases h
  rfl

/-- Settles O17: `CONSTRUCT` writes none of these fields. -/
theorem constructPerformsNoIO : Obligations.ConstructPerformsNoIO := by
  intro s t h
  obtain ⟨-, rfl⟩ := exec_construct_next h
  exact ⟨rfl, rfl, rfl, rfl, rfl, rfl, rfl, rfl⟩

/-! ### The handshake step by step -/

/-- The event of a step that is a drive or a wait, as all steps of the handshake but the last are. -/
def SeqAction.event : SeqAction → Option Event
  | .drive l x => some (.line l x)
  | .wait => some .wait
  | .rest | .build | .write | .initiate | .activate | .report | .close => none

/-- A drive and a wait append their event, move on, and neither answer nor write `active`. -/
theorem State.advance_of_event {e : Event} (he : (seqAction s.seq).event = some e)
    (h : s.advance p = .next t) :
    t.seq = seqNext s.seq ∧ t.trace = s.trace ++ [e] ∧ t.responses = s.responses ∧
      t.active = s.active := by
  rw [State.advance_eq_act] at h
  cases hq : seqAction s.seq with
  | drive l x =>
    rw [hq] at h he
    cases he
    obtain ⟨a, -, rfl⟩ := State.drive_next.1 h
    simp
  | wait =>
    rw [hq] at h he
    cases he
    cases h
    exact ⟨rfl, rfl, rfl, rfl⟩
  | rest | build | write | initiate | activate | report | close =>
    rw [hq] at he
    cases he

/-- The nine events of the handshake are those of the first nine positions of the table. -/
theorem exists_event_enable {n : Nat} (h : n < 9) :
    ∃ e, (seqAction (seqNext^[n] .enable1)).event = some e ∧
      enableEvents.take (n + 1) = enableEvents.take n ++ [e] := by
  interval_cases n <;> exact ⟨_, rfl, rfl⟩

theorem take_enableEvents_of_nine_le {n : Nat} (h : 9 ≤ n) : enableEvents.take n = enableEvents :=
  List.take_of_length_le h

theorem seqNext_iterate_enable_of_ten_le {n : Nat} (h : 10 ≤ n) : seqNext^[n] .enable1 = .idle := by
  induction n, h using Nat.le_induction with
  | base => rfl
  | succ n _ ih => rw [Function.iterate_succ_apply', ih]; rfl

/-- `t` is where the handshake begun in `s` stands after `n` steps: the position, the events, the
response and `active`. -/
structure State.HandshakeAt (s : State) (n : Nat) (t : State) : Prop where
  seq : t.seq = seqNext^[n] .enable1
  trace : t.trace = s.trace ++ enableEvents.take n
  responses : t.responses = s.responses ++ if n ≤ 9 then [] else [.ok 0#24]
  active : t.active = if n ≤ 9 then s.active else true

theorem State.handshakeAt_start (s : State) : s.HandshakeAt 0 (s.goto .enable1) :=
  ⟨rfl, by simp, by simp, rfl⟩

/-- One step further: an event, the end at the tenth step, or nothing once the sequencer is idle. -/
theorem State.advance_handshakeAt {n : Nat} (h : s.HandshakeAt n t) (hu : t.advance p = .next u) :
    s.HandshakeAt (n + 1) u := by
  obtain ⟨hseq, htrace, hresp, hact⟩ := h
  rcases Nat.lt_trichotomy n 9 with hn | rfl | hn
  · obtain ⟨e, he, htake⟩ := exists_event_enable hn
    obtain ⟨hseq', htrace', hresp', hact'⟩ := State.advance_of_event (hseq ▸ he) hu
    refine ⟨?_, ?_, ?_, ?_⟩
    · rw [hseq', hseq, Function.iterate_succ_apply']
    · rw [htrace', htrace, htake, List.append_assoc]
    · rw [hresp', hresp, if_pos (by omega), if_pos (by omega)]
    · rw [hact', hact, if_pos (by omega), if_pos (by omega)]
  · have hend : u = t.activate.respond (.ok 0#24) := by
      rw [State.advance, show t.seq = .enable10 from hseq] at hu
      exact (Host.Outcome.next.inj hu).symm
    subst hend
    exact ⟨rfl, htrace, by simp [hresp], rfl⟩
  · have hidle : t.seq = .idle := hseq.trans (seqNext_iterate_enable_of_ten_le hn)
    have hsame : t = u := by simpa [State.advance, hidle] using hu
    subst hsame
    refine ⟨hidle.trans (seqNext_iterate_enable_of_ten_le (by omega)).symm, ?_, ?_, ?_⟩
    · rw [htrace, take_enableEvents_of_nine_le (by omega), take_enableEvents_of_nine_le (by omega)]
    · rw [hresp, if_neg (by omega), if_neg (by omega)]
    · rw [hact, if_neg (by omega), if_neg (by omega)]

theorem State.runSteps_handshakeAt {m n : Nat} (h : s.HandshakeAt m t)
    (hu : t.runSteps p n = .next u) : s.HandshakeAt (m + n) u := by
  induction n generalizing m t with
  | zero => exact Host.Outcome.next.inj hu ▸ h
  | succ n ih =>
    obtain ⟨v, hv, hu⟩ := andThen_eq_next.1 hu
    rw [Nat.add_comm n 1, ← Nat.add_assoc]
    exact ih (State.advance_handshakeAt h hv) hu

/-- Where `n` steps of the handshake lead. -/
theorem State.handshakeAt_of_runSteps {n : Nat} (h : (s.goto .enable1).runSteps p n = .next t) :
    s.HandshakeAt n t :=
  Nat.zero_add n ▸ State.runSteps_handshakeAt s.handshakeAt_start h

/-- Settles O22: the events, the response and the position after `n` steps. -/
theorem enableEventsComeInOrder : Obligations.EnableEventsComeInOrder := by
  intro p s t n h
  have hat := State.handshakeAt_of_runSteps h
  refine ⟨hat.trace, fun hn => ?_, fun hn => ⟨?_, ?_⟩⟩
  · rw [hat.responses, if_pos hn, List.append_nil]
  · rw [hat.responses, if_neg (by omega)]
  · rw [hat.seq, seqNext_iterate_enable_of_ten_le hn]

/-- Settles O23: `active` after `n` steps. -/
theorem activeIsSetAtTheTenthStep : Obligations.ActiveIsSetAtTheTenthStep := by
  intro p s t n h
  have hact := (State.handshakeAt_of_runSteps h).active
  exact ⟨fun hn => by rw [hact, if_pos hn], fun hn => by rw [hact, if_neg (by omega)]⟩

/-! ### The handshake as a whole -/

/-- A drive that meets no listed reply draws a free answer (assumption log 6). -/
theorem State.driven_lineDraws_eq (s : State) (l : Line) (x : Level) (a : LineAnswer) (q : Seq) :
    (s.driven l x a q).lineDraws = s.lineDraws + (1 - s.lineReplies.length) := by
  cases hr : s.lineReplies with
  | nil => cases l <;> simp [State.driven, State.lineAsked, State.setLine, State.emit, State.goto, hr]
  | cons r rest => simp [State.driven_lineDraws (s := s) (by simp [hr])]

/-- The handshake of a ready block: each latch as the last drive of its line leaves it, seven replies
taken, free answers drawn for those not listed, the nine events, the response, and `active`. -/
theorem State.enabled_eq (h : s.Ready) (a1 a2 a3 a4 a5 a6 a7 : LineAnswer) :
    s.enabled a1 a2 a3 a4 a5 a6 a7 = { s with
      active := true
      lineEN := levelLatch (drivenLevel .high a4)
      lineSEL := levelLatch (drivenLevel .high a3)
      lineRST := levelLatch (drivenLevel .low a7)
      trace := s.trace ++ enableEvents
      responses := s.responses ++ [.ok 0#24]
      lineReplies := s.lineReplies.drop 7
      lineDraws := s.lineDraws + (7 - s.lineReplies.length) } := by
  obtain ⟨hseq, -, hch, hval, hidx, hframe, hans⟩ := h
  ext1
  case h_trace => exact State.enabled_trace ..
  case h_responses => exact State.enabled_responses ..
  case h_lineDraws =>
    simp [State.enabled, State.enableWaited, State.enableHalf, State.driven_lineDraws_eq]
    omega
  case h_lineReplies =>
    simp [State.enabled, State.enableWaited, State.enableHalf, ← List.drop_one]
  all_goals simp [State.enabled, State.enableWaited, State.enableHalf, *]

/-- A ready block whose drives return completes `ENABLE`. -/
theorem exec_enable_of_ready (h : s.Ready) (hl : s.LinesReturn 7) :
    ∃ a1 a2 a3 a4 a5 a6 a7, exec .enable s = .next (s.enabled a1 a2 a3 a4 a5 a6 a7) := by
  rcases State.run_enable specParams s with ⟨hn, -⟩ | ⟨-, a1, a2, a3, a4, a5, a6, a7, hrun⟩
  · exact absurd hl hn
  · exact ⟨a1, a2, a3, a4, a5, a6, a7, (State.whenReady_ready h _).trans hrun⟩

/-- Seven listed replies are the answers that the handshake meets: written out, they let its ten steps
compute. -/
theorem exec_enable_of_listed {a1 a2 a3 a4 a5 a6 a7 : LineAnswer} {rest : List (Reply LineAnswer)}
    (h : s.Ready) (hr : s.lineReplies = .answer a1 :: .answer a2 :: .answer a3 :: .answer a4 ::
      .answer a5 :: .answer a6 :: .answer a7 :: rest) :
    exec .enable s = .next (s.enabled a1 a2 a3 a4 a5 a6 a7) := by
  refine (State.whenReady_ready h _).trans ?_
  cases s
  cases hr
  rfl

/-- Settles O19: what the handshake leaves, without the line side. -/
theorem enableCompletes : Obligations.EnableCompletes := by
  intro s h hl
  obtain ⟨a1, a2, a3, a4, a5, a6, a7, he⟩ := exec_enable_of_ready h hl
  exact ⟨_, he, by rw [State.enabled_eq h]; rfl⟩

/-- Settles O20: what the handshake leaves of the line side, with the answers listed. -/
theorem enableLatchesFollowTheAnswers : Obligations.EnableLatchesFollowTheAnswers := by
  intro s a1 a2 a3 a4 a5 a6 a7 rest h hr
  refine ⟨_, exec_enable_of_listed h hr, ?_⟩
  rw [State.enabled_eq h, hr]
  exact ⟨rfl, rfl, rfl, rfl⟩

/-- Settles O21: seven listed answers `ok` leave the levels asked for, and no free answer is drawn. -/
theorem enableOnObeyingLines : Obligations.EnableOnObeyingLines := by
  intro s h hl
  have hr : s.lineReplies = List.replicate 7 (.answer .ok) ++ s.lineReplies.drop 7 := by
    rw [← (show _ = _ from hl), List.take_append_drop]
  have hdraws : 7 - s.lineReplies.length = 0 := by
    rw [hr, List.length_append, List.length_replicate, Nat.sub_eq_zero_of_le (Nat.le_add_right ..)]
  rw [exec_enable_of_listed h hr, State.enabled_eq h, hdraws]
  rfl

/-! ### What only `CONSTRUCT` and `ENABLE` do -/

/-- Settles O34: both write `active` whatever it was, and no other instruction does. -/
theorem activeIsWrittenByTwoOperations : Obligations.ActiveIsWrittenByTwoOperations := by
  intro i s t h
  refine ⟨?_, ?_, fun hc he => ?_⟩
  · rintro rfl
    obtain ⟨-, rfl⟩ := exec_construct_next h
    exact State.construct_active s
  · rintro rfl
    obtain ⟨-, -, a1, a2, a3, a4, a5, a6, a7, rfl⟩ := exec_enable_next h
    exact State.enabled_active ..
  · rcases exec_active h with ⟨hi, -⟩ | ⟨hi, -⟩ | hact
    · exact absurd hi hc
    · exact absurd hi he
    · exact hact

@[simp] theorem State.writeClosed_lineRST (c : Channel) (v : Value) (b : BusAnswer)
    (a1 a2 a3 a4 : LineAnswer) : (s.writeClosed p c v b a1 a2 a3 a4).lineRST = s.lineRST := by
  simp [State.writeClosed, State.writeOpened]

@[simp] theorem State.prepareClosed_lineRST (c : Channel) (v : Value) (b : InitiatorAnswer)
    (a1 a2 a3 a4 : LineAnswer) : (s.prepareClosed p c v b a1 a2 a3 a4).lineRST = s.lineRST := by
  simp [State.prepareClosed, State.prepareOpened]

/-- The reset line's events of the pin trace. -/
def resetEvents (es : List Event) : List (Line × Level) :=
  (pinTrace es).filter fun e => e.1 = .RST

/-- Around the middle event of a transfer only the enable and the select line are driven. -/
theorem resetEvents_append_transferEvents {e : Event} (he : resetEvents [e] = []) (es : List Event) :
    resetEvents (es ++ transferEvents e) = resetEvents es := by
  cases e <;> simp_all [resetEvents, pinTrace, transferEvents]

/-- Settles O40: one case for each effect of an instruction; the transfers drive the other two lines. -/
theorem resetLineIsDrivenByEnableOnly : Obligations.ResetLineIsDrivenByEnableOnly := by
  intro i s t hi h
  cases exec_effect h with
  | recognises | answers | constructs => exact ⟨rfl, rfl⟩
  | enables => exact absurd rfl hi
  | writes hs c v =>
    refine ⟨State.writeClosed_lineRST .., ?_⟩
    rw [State.writeClosed_trace]
    exact resetEvents_append_transferEvents rfl s.trace
  | prepares hs c v =>
    refine ⟨State.prepareClosed_lineRST .., ?_⟩
    rw [State.prepareClosed_trace]
    exact resetEvents_append_transferEvents rfl s.trace

end Sys2Proof.Machine

/-!
The family 44_transfer: `WRITE_BLOCKING` and `PREPARE_TRANSFER`, what they leave, and what no other
instruction does (44_transfer.md rules R110 to R124).

The idea: a transfer of a ready, enabled block ends in the state it found but for the fields named in
`State.writeClosed_eq` and `State.prepareClosed_eq`; and where the line replies are listed, they are the
answers its drives met. What a transfer leaves is then read off these states.
-/

namespace Sys2Proof.Machine

variable {p : Params} {s t u : State} {i : Instr} {c : Channel} {v : Value}
  {a1 a2 a3 a4 : LineAnswer} {rest : List (Reply LineAnswer)}

/-! ### What a transfer leaves of a ready block -/

/-- A write with its closing events: two latches as the closing drives leave them, four line replies and
one bus reply taken (free answers drawn for those not listed), the five events and the response. -/
theorem State.writeClosed_eq (h : s.Ready) (b : BusAnswer) :
    s.writeClosed p c v b a1 a2 a3 a4 = { s with
      lineEN := levelLatch (drivenLevel .high a4)
      lineSEL := levelLatch (drivenLevel .high a3)
      trace := s.trace ++ transferEvents (.bus (encodeFrame p c v))
      responses := s.responses ++ [if b = BusAnswer.ok then .ok 0#24 else .busWriteError]
      lineReplies := s.lineReplies.drop 4
      lineDraws := s.lineDraws + (4 - s.lineReplies.length)
      busReplies := s.busReplies.tail
      busDraws := if s.busReplies = [] then s.busDraws + 1 else s.busDraws } := by
  obtain ⟨hseq, -, hch, hval, hidx, hframe, hans⟩ := h
  ext1
  case h_trace => exact State.writeClosed_trace ..
  case h_responses => exact State.writeClosed_responses ..
  case h_lineDraws =>
    simp [State.writeClosed, State.writeOpened, State.driven_lineDraws_eq]
    omega
  case h_lineReplies => simp [State.writeClosed, State.writeOpened, ← List.drop_one]
  all_goals simp [State.writeClosed, State.writeOpened, *]

/-- A failed write without its closing events: the opening drives leave the latches, and the trace ends
at the bus write (44_transfer.md rule R118). -/
theorem State.writeLeftOpen_eq (h : s.Ready) :
    s.writeLeftOpen p c v a1 a2 = { s with
      lineEN := levelLatch (drivenLevel .low a1)
      lineSEL := levelLatch (drivenLevel .low a2)
      trace := s.trace ++ (transferEvents (.bus (encodeFrame p c v))).take 3
      responses := s.responses ++ [.busWriteError]
      lineReplies := s.lineReplies.drop 2
      lineDraws := s.lineDraws + (2 - s.lineReplies.length)
      busReplies := s.busReplies.tail
      busDraws := if s.busReplies = [] then s.busDraws + 1 else s.busDraws } := by
  obtain ⟨hseq, -, hch, hval, hidx, hframe, hans⟩ := h
  ext1
  case h_lineDraws =>
    simp [State.writeLeftOpen, State.writeOpened, State.driven_lineDraws_eq]
    omega
  case h_lineReplies => simp [State.writeLeftOpen, State.writeOpened, ← List.drop_one]
  all_goals simp [State.writeLeftOpen, State.writeOpened, transferEvents, *]

/-- A deferred transfer: as a write, with the initiator in place of the bus, and its frame pending if the
transfer was only begun. -/
theorem State.prepareClosed_eq (h : s.Ready) (b : InitiatorAnswer) :
    s.prepareClosed p c v b a1 a2 a3 a4 = { s with
      lineEN := levelLatch (drivenLevel .high a4)
      lineSEL := levelLatch (drivenLevel .high a3)
      pending := if b = .deferred then s.pending ++ [encodeFrame p c v] else s.pending
      trace := s.trace ++ transferEvents (.init (encodeFrame p c v))
      responses := s.responses ++ [.ok 0#24]
      lineReplies := s.lineReplies.drop 4
      lineDraws := s.lineDraws + (4 - s.lineReplies.length)
      initiatorReplies := s.initiatorReplies.tail
      initiatorDraws := if s.initiatorReplies = [] then s.initiatorDraws + 1
        else s.initiatorDraws } := by
  obtain ⟨hseq, -, hch, hval, hidx, hframe, hans⟩ := h
  ext1
  case h_pending => exact State.prepareClosed_pending ..
  case h_trace => exact State.prepareClosed_trace ..
  case h_responses => exact State.prepareClosed_responses ..
  case h_lineDraws =>
    simp [State.prepareClosed, State.prepareOpened, State.driven_lineDraws_eq]
    omega
  case h_lineReplies => simp [State.prepareClosed, State.prepareOpened, ← List.drop_one]
  all_goals simp [State.prepareClosed, State.prepareOpened, *]

/-! ### A transfer runs to its end -/

/-- A ready, enabled block passes both tests of a transfer. -/
theorem State.whenReady_whenActive (h : s.Ready) (ha : s.active = true) (body : Result) :
    s.whenReady (s.whenActive body) = body :=
  (State.whenReady_ready h _).trans (State.whenActive_active ha _)

/-- A write whose drives and bus return completes, under the spec's parameters. -/
theorem exec_write_of_ready {b : BusAnswer} (h : s.Ready) (ha : s.active = true)
    (hl : s.LinesReturn 4) (hb : s.busReply = .answer b) :
    ∃ a1 a2 a3 a4, exec (.writeBlocking c v) s =
      .next (s.writeClosed specParams c v b a1 a2 a3 a4) := by
  rcases State.run_write specParams s c v with ⟨_, -, hn⟩ | ⟨_, _, -, hd, -⟩ |
    ⟨b', a1, a2, a3, a4, hb', -, -, hrun⟩
  · exact absurd (by simp [State.BusReturns, hb]) (hn hl)
  · cases hd
  · cases hb.symm.trans hb'
    exact ⟨a1, a2, a3, a4, (State.whenReady_whenActive h ha _).trans hrun⟩

/-- A deferred transfer whose drives and initiator return completes. -/
theorem exec_prepare_of_ready {b : InitiatorAnswer} (h : s.Ready) (ha : s.active = true)
    (hl : s.LinesReturn 4) (hb : s.initiatorReply = .answer b) :
    ∃ a1 a2 a3 a4, exec (.prepareTransfer c v) s =
      .next (s.prepareClosed specParams c v b a1 a2 a3 a4) := by
  rcases State.run_prepare specParams s c v with ⟨_, -, hn⟩ | ⟨b', a1, a2, a3, a4, hb', -, hrun⟩
  · exact absurd (by simp [State.InitiatorReturns, hb]) (hn hl)
  · cases hb.symm.trans hb'
    exact ⟨a1, a2, a3, a4, (State.whenReady_whenActive h ha _).trans hrun⟩

/-- What a completed write leaves, without the line side and the bus replies, for either bus answer. -/
theorem exec_write_frame {b : BusAnswer} (h : s.Ready) (ha : s.active = true)
    (hl : s.LinesReturn 4) (hb : s.busReply = .answer b) :
    ∃ t, exec (.writeBlocking c v) s = .next t ∧
      (t.withLinesOf s).withBusOf s = { s with
        trace := s.trace ++ transferEvents (.bus (encodeFrame specParams c v))
        responses := s.responses ++ [if b = BusAnswer.ok then .ok 0#24 else .busWriteError] } := by
  obtain ⟨a1, a2, a3, a4, he⟩ := exec_write_of_ready (c := c) (v := v) h ha hl hb
  exact ⟨_, he, by rw [State.writeClosed_eq h]; rfl⟩

/-- Settles O25: the bus answers `ok`. -/
theorem writeBlockingSendsTheFrame : Obligations.WriteBlockingSendsTheFrame :=
  fun _ _ _ h ha hl hb => exec_write_frame h ha hl hb

/-- Settles O26: the bus answers `fail`. -/
theorem writeBlockingAfterABusFailure : Obligations.WriteBlockingAfterABusFailure :=
  fun _ _ _ h ha hl hb => exec_write_frame h ha hl hb

/-- Settles O28: what a completed transfer leaves, and its frame by the initiator's answer. -/
theorem prepareTransferCallsTheInitiator : Obligations.PrepareTransferCallsTheInitiator := by
  intro c v s b h ha hl hb
  obtain ⟨a1, a2, a3, a4, he⟩ := exec_prepare_of_ready (c := c) (v := v) h ha hl hb
  exact ⟨_, he, by rw [State.prepareClosed_eq h]; rfl, State.prepareClosed_pending ..⟩

/-- Settles O24: the guard of both transfers answers, and on a ready block the response is all that an
answer changes. -/
theorem transfersBeforeEnableDoNothing : Obligations.TransfersBeforeEnableDoNothing := by
  intro c v s h ha
  have guarded : ∀ body, s.whenReady (s.whenActive body) =
      .next { s with responses := s.responses ++ [.ok 0#24] } := fun body => by
    rw [State.whenReady_ready h, State.whenActive_inactive ha, State.finish_eq,
      State.respond_of_ready h]
  exact ⟨guarded _, guarded _⟩

/-- Settles O30: an answer of a block that is not enabled, or the end of the sequence. -/
theorem transfersKeepTheHeldState : Obligations.TransfersKeepTheHeldState := by
  rintro c v s t h (he | he)
  · obtain ⟨-, -, ⟨-, rfl⟩ | ⟨-, b, a1, a2, a3, a4, -, rfl⟩⟩ := exec_write_next he
    · rw [State.respond_of_ready h]
      exact ⟨rfl, h⟩
    · rw [State.writeClosed_eq h]
      exact ⟨rfl, h⟩
  · obtain ⟨-, -, ⟨-, rfl⟩ | ⟨-, b, a1, a2, a3, a4, -, rfl⟩⟩ := exec_prepare_next he
    · rw [State.respond_of_ready h]
      exact ⟨rfl, h⟩
    · rw [State.prepareClosed_eq h]
      exact ⟨rfl, h⟩

/-! ### Listed replies are the answers met -/

theorem State.linesObey_lineReplies {n : Nat} (h : s.LinesObey n) :
    s.lineReplies = List.replicate n (.answer .ok) ++ s.lineReplies.drop n := by
  rw [← (show _ = _ from h), List.take_append_drop]

/-- A write up to its bus write, on two listed line replies. -/
theorem State.run_write_to_bus {b : BusAnswer} (hr : s.lineReplies = .answer a1 :: .answer a2 :: rest)
    (hb : s.busReply = .answer b) :
    ((s.latchTransfer c v).goto .write1).runSteps p 7 =
      ((s.writeOpened p c v a1 a2).written p (encodeFrame p c v) b).runSteps p 3 := by
  have hopen : ((s.latchTransfer c v).goto .write1).runSteps p 7 =
      (s.writeOpened p c v a1 a2).runSteps p 4 := by
    cases s
    cases hr
    rfl
  have hf : (s.writeOpened p c v a1 a2).frame = some (encodeFrame p c v) := by
    simp [State.writeOpened]
  exact hopen.trans (State.runSteps_step (State.busWrite_answer hf (by simpa using hb)))

/-- The closing drives and the report of a write, on two listed line replies. -/
theorem State.runSteps_write5 {b : BusAnswer} (hq : u.seq = .write5) (hb : u.busAnswer = some b)
    (hr : u.lineReplies = .answer a3 :: .answer a4 :: rest) :
    u.runSteps p 3 = .next (u.driven .SEL .high a3 .write6 |>.driven .EN .high a4 .write7
      |>.respond (if b = BusAnswer.ok then .ok 0#24 else .busWriteError)) := by
  cases u
  cases hq
  cases hb
  cases hr
  cases b <;> rfl

/-- The report of a write, after which the sequencer rests. -/
theorem State.runSteps_write7 {b : BusAnswer} {n : Nat} (hq : u.seq = .write7)
    (hb : u.busAnswer = some b) : u.runSteps p (n + 1) =
      .next (u.respond (if b = BusAnswer.ok then .ok 0#24 else .busWriteError)) := by
  refine (State.runSteps_step ?_).trans (State.runSteps_idle rfl n)
  rw [State.advance, hq]
  exact State.reportBus_some hb

/-- A write that drives its closing events, on four listed line replies. -/
theorem State.run_write_of_listed {b : BusAnswer} (hd : ¬ (b = .fail ∧ p.deassertOnBusError = false))
    (hr : s.lineReplies = .answer a1 :: .answer a2 :: .answer a3 :: .answer a4 :: rest)
    (hb : s.busReply = .answer b) :
    ((s.latchTransfer c v).goto .write1).runSteps p 7 =
      .next (s.writeClosed p c v b a1 a2 a3 a4) :=
  (State.run_write_to_bus hr hb).trans
    (State.runSteps_write5 (rest := rest) ((State.written_seq ..).trans (if_neg hd))
      (State.written_busAnswer ..) (by simp [State.writeOpened, hr]))

/-- A failed write that leaves its closing events out, on two listed line replies. -/
theorem State.run_failed_write_of_listed (hd : p.deassertOnBusError = false)
    (hr : s.lineReplies = .answer a1 :: .answer a2 :: rest) (hb : s.busReply = .answer .fail) :
    ((s.latchTransfer c v).goto .write1).runSteps p 7 = .next (s.writeLeftOpen p c v a1 a2) :=
  (State.run_write_to_bus hr hb).trans
    (State.runSteps_write7 ((State.written_seq ..).trans (if_pos ⟨rfl, hd⟩))
      (State.written_busAnswer ..))

/-- The closing drives of a deferred transfer, on two listed line replies. -/
theorem State.runSteps_prepare5 (hq : u.seq = .prepare5)
    (hr : u.lineReplies = .answer a3 :: .answer a4 :: rest) :
    u.runSteps p 2 = .next (u.driven .SEL .high a3 .prepare6 |>.driven .EN .high a4 .idle
      |>.respond (.ok 0#24)) := by
  cases u
  cases hq
  cases hr
  rfl

/-- A deferred transfer, on four listed line replies. -/
theorem State.run_prepare_of_listed {b : InitiatorAnswer}
    (hr : s.lineReplies = .answer a1 :: .answer a2 :: .answer a3 :: .answer a4 :: rest)
    (hb : s.initiatorReply = .answer b) :
    ((s.latchTransfer c v).goto .prepare1).runSteps p 6 =
      .next (s.prepareClosed p c v b a1 a2 a3 a4) := by
  have hopen : ((s.latchTransfer c v).goto .prepare1).runSteps p 6 =
      (s.prepareOpened p c v a1 a2).runSteps p 3 := by
    cases s
    cases hr
    rfl
  have hf : (s.prepareOpened p c v a1 a2).frame = some (encodeFrame p c v) := by
    simp [State.prepareOpened]
  calc ((s.latchTransfer c v).goto .prepare1).runSteps p 6
    _ = (s.prepareOpened p c v a1 a2).runSteps p 3 := hopen
    _ = ((s.prepareOpened p c v a1 a2).initiated (encodeFrame p c v) b .prepare5).runSteps p 2 :=
      State.runSteps_step (State.initiate_answer hf (by simpa using hb) _)
    _ = .next (s.prepareClosed p c v b a1 a2 a3 a4) :=
      State.runSteps_prepare5 (rest := rest) (State.initiated_seq ..) (by simp [State.prepareOpened, hr])

/-- Settles O27: lines that obey are four listed answers, and each value of the parameter has its own
last steps. -/
theorem busFailureUnderBothReadings : Obligations.BusFailureUnderBothReadings := by
  intro p c v s h ha hl hb
  have hr := State.linesObey_lineReplies hl
  have hrun : s.writeBlockingWith p c v = ((s.latchTransfer c v).goto .write1).runSteps p 7 :=
    State.whenReady_whenActive h ha _
  cases hp : p.deassertOnBusError with
  | true =>
    refine ⟨_, hrun.trans (State.run_write_of_listed (by simp [hp]) hr hb), ?_⟩
    rw [State.writeClosed_eq h]
    exact ⟨rfl, h, rfl, fun _ => ⟨rfl, rfl, rfl⟩, nofun⟩
  | false =>
    refine ⟨_, hrun.trans (State.run_failed_write_of_listed hp hr hb), ?_⟩
    rw [State.writeLeftOpen_eq h]
    exact ⟨rfl, h, rfl, nofun, fun _ => ⟨rfl, rfl, rfl⟩⟩

/-- Settles O29: a transfer with a next state has met an answer of the bus or of the initiator, and its
drives the listed answers. -/
theorem transferLatchesFollowTheAnswers : Obligations.TransferLatchesFollowTheAnswers := by
  rintro c v s t a1 a2 a3 a4 rest h ha hr (he | he)
  · obtain ⟨-, -, ⟨hf, -⟩ | ⟨-, b, -, -, -, -, hb, -⟩⟩ := exec_write_next he
    · cases ha.symm.trans hf
    have hrun : exec (.writeBlocking c v) s = .next (s.writeClosed specParams c v b a1 a2 a3 a4) :=
      (State.whenReady_whenActive h ha _).trans
        (State.run_write_of_listed (by simp [specParams]) hr hb)
    rw [← Host.Outcome.next.inj (hrun.symm.trans he), State.writeClosed_eq h, hr]
    exact ⟨rfl, rfl, rfl, rfl⟩
  · obtain ⟨-, -, ⟨hf, -⟩ | ⟨-, b, -, -, -, -, hb, -⟩⟩ := exec_prepare_next he
    · cases ha.symm.trans hf
    have hrun : exec (.prepareTransfer c v) s =
        .next (s.prepareClosed specParams c v b a1 a2 a3 a4) :=
      (State.whenReady_whenActive h ha _).trans (State.run_prepare_of_listed hr hb)
    rw [← Host.Outcome.next.inj (hrun.symm.trans he), State.prepareClosed_eq h, hr]
    exact ⟨rfl, rfl, rfl, rfl⟩

/-! ### The rest levels -/

/-- An instruction leaves an enabled block at rest: `ENABLE` and the transfers end with the drives that
the rest levels ask for, `CONSTRUCT` leaves the block not enabled, and the others drive no line. -/
theorem exec_atRest (h : s.Ready) (hl : s.LinesObey 7) (hrest : s.active = true → s.AtRest)
    (he : exec i s = .next t) : t.active = true → t.AtRest := by
  have hr := State.linesObey_lineReplies hl
  have transfer : ∀ c v, s.active = true →
      (exec (.writeBlocking c v) s = .next t ∨ exec (.prepareTransfer c v) s = .next t) →
      t.AtRest := by
    intro c v ha he
    obtain ⟨hEN, hSEL, hRST, -⟩ :=
      transferLatchesFollowTheAnswers c v s t .ok .ok .ok .ok _ h ha hr he
    exact ⟨hEN, hSEL, hRST.trans (hrest ha).2.2⟩
  cases exec_effect he with
  | recognises | answers => exact hrest
  | constructs => nofun
  | enables =>
    rw [← Host.Outcome.next.inj ((enableOnObeyingLines s h hl).symm.trans he)]
    exact fun _ => ⟨rfl, rfl, rfl⟩
  | writes _ c v _ _ _ _ _ ha => exact fun _ => transfer c v ha (.inl he)
  | prepares _ c v _ _ _ _ _ ha => exact fun _ => transfer c v ha (.inr he)

/-- Settles O55: a step of a ready block runs an instruction, or takes an input that touches neither the
lines nor `active`, or does nothing. -/
theorem stepKeepsTheRestLevels : Obligations.StepKeepsTheRestLevels := by
  intro s t h hl hrest ht
  rcases step_next ht with ⟨i, -, -, he⟩ | ⟨-, f, rfl⟩ | ⟨-, rfl⟩ | ⟨-, rfl⟩ | ⟨-, hadv⟩
  · exact exec_atRest (s := s.takeInput) h hl hrest he
  · exact hrest
  · exact hrest
  · exact hrest
  · have hsame : s = t := by simpa [State.advance, h.1] using hadv
    exact hsame ▸ hrest

/-! ### What reaches the bus and the initiator -/

/-- Settles O31: the response of the table is that of the bus answer, or `OK` before `ENABLE`. -/
theorem writeOutcomeIsTheBusAnswer : Obligations.WriteOutcomeIsTheBusAnswer := by
  intro c v s t h
  have htable : t.responses = s.responses ++ expectedResponses s.active s.busReply _ :=
    everyOperationAnswersByTheTable _ s t h
  exact ⟨fun ha hb => by simp [htable, expectedResponses, ha, hb],
    fun ha hb => by simp [htable, expectedResponses, ha, hb],
    fun ha => by simp [htable, expectedResponses, ha]⟩

theorem busTrace_append (es es' : List Event) : busTrace (es ++ es') = busTrace es ++ busTrace es' :=
  List.filterMap_append

theorem initiatorCalls_append (es es' : List Event) :
    initiatorCalls (es ++ es') = initiatorCalls es ++ initiatorCalls es' :=
  List.filterMap_append

/-- The handshake writes no bus and calls no initiator. -/
theorem frames_enableEvents : busTrace enableEvents = [] ∧ initiatorCalls enableEvents = [] :=
  ⟨rfl, rfl⟩

theorem busTrace_transferEvents (e : Event) : busTrace (transferEvents e) = busTrace [e] := by
  cases e <;> rfl

theorem initiatorCalls_transferEvents (e : Event) :
    initiatorCalls (transferEvents e) = initiatorCalls [e] := by
  cases e <;> rfl

/-- Settles O32: one case for each effect of an instruction, by the events it appends. -/
theorem busWritesAreTheActiveWrites : Obligations.BusWritesAreTheActiveWrites := by
  intro i s t h
  cases exec_effect h with
  | recognises i c v hi =>
    obtain ⟨-, -, -, hw, -, -⟩ := frameRow_not_operation c v
    exact ⟨fun d w hd => absurd (hi.symm.trans hd) (hw d w), fun _ => rfl⟩
  | answers i r hs hr hc he ht => exact ⟨fun c v hi ha => absurd hi ((ht ha).1 c v), fun _ => rfl⟩
  | constructs => exact ⟨nofun, fun _ => rfl⟩
  | enables =>
    refine ⟨nofun, fun _ => ?_⟩
    rw [State.enabled_trace, busTrace_append, frames_enableEvents.1, List.append_nil]
  | writes hs c v b a1 a2 a3 a4 ha =>
    refine ⟨?_, ?_⟩
    · rintro c' v' ⟨⟩ -
      rw [State.writeClosed_trace, busTrace_append, busTrace_transferEvents]
      rfl
    · rintro (hw | hf)
      · exact absurd rfl (hw c v)
      · cases ha.symm.trans hf
  | prepares hs c v =>
    refine ⟨nofun, fun _ => ?_⟩
    rw [State.prepareClosed_trace, busTrace_append, busTrace_transferEvents]
    exact List.append_nil _

/-- Settles O33: the events of an active `PREPARE_TRANSFER`, and for all others one case for each effect
of an instruction. -/
theorem initiatorCallsAreTheActivePrepares : Obligations.InitiatorCallsAreTheActivePrepares := by
  intro i s t h
  refine ⟨?_, ?_⟩
  · rintro c v rfl
    refine ⟨(busWritesAreTheActiveWrites _ s t h).2 (.inl nofun), fun ha => ?_⟩
    obtain ⟨-, -, ⟨hf, -⟩ | ⟨-, b, a1, a2, a3, a4, -, rfl⟩⟩ := exec_prepare_next h
    · cases ha.symm.trans hf
    · exact State.prepareClosed_trace ..
  · intro hi
    cases exec_effect h with
    | recognises | answers | constructs => rfl
    | enables =>
      rw [State.enabled_trace, initiatorCalls_append, frames_enableEvents.2, List.append_nil]
    | writes =>
      rw [State.writeClosed_trace, initiatorCalls_append, initiatorCalls_transferEvents]
      exact List.append_nil _
    | prepares hs c v b a1 a2 a3 a4 ha =>
      rcases hi with hp | hf
      · exact absurd rfl (hp c v)
      · cases ha.symm.trans hf

end Sys2Proof.Machine

/-!
The family 60_exceptions: how an operation ends, with a response, with a fault, or halted
(60_exceptions.md rules R131, R132, R140, R144, R147).

The idea: that line answers are discarded is a simulation. A step of the sequencer with another line
side does what it did, but for the line side (`State.advance_withLinesOf`), and the drives still to come
return as before; so a whole run does (`State.runSteps_withLinesOf`), and with it every operation.
-/

namespace Sys2Proof.Machine

variable {p : Params} {s t u : State} {i : Instr}

/-! ### The responses -/

theorem expectedResponses_eq_busWriteError {a : Bool} {b : Reply BusAnswer} :
    expectedResponses a b i = [.busWriteError] ↔
      (∃ c v, i = .writeBlocking c v) ∧ a = true ∧ b = .answer .fail := by
  cases i with
  | writeBlocking c v =>
    by_cases hfail : a = true ∧ b = .answer .fail <;> simp [expectedResponses, hfail]
  | fromIndex n => by_cases hn : n < 4 <;> simp [expectedResponses, hn]
  | frameA | frameB | frameC | frameD | frameAll | enable | prepareTransfer | encode | construct =>
    simp [expectedResponses]

/-- Settles O38: the response is that of the table, and the table gives this one to a failed write
only. -/
theorem busWriteErrorOnlyFromAFailedWrite : Obligations.BusWriteErrorOnlyFromAFailedWrite := by
  intro i s t h
  rw [everyOperationAnswersByTheTable i s t h, List.append_cancel_left_eq]
  exact expectedResponses_eq_busWriteError

/-! ### The halt -/

@[simp] theorem State.enabled_halted (a1 a2 a3 a4 a5 a6 a7 : LineAnswer) :
    (s.enabled a1 a2 a3 a4 a5 a6 a7).halted = s.halted := by
  simp [State.enabled, State.enableWaited, State.enableHalf]

@[simp] theorem State.writeClosed_halted (c : Channel) (v : Value) (b : BusAnswer)
    (a1 a2 a3 a4 : LineAnswer) : (s.writeClosed p c v b a1 a2 a3 a4).halted = s.halted := by
  simp [State.writeClosed, State.writeOpened]

@[simp] theorem State.prepareClosed_halted (c : Channel) (v : Value) (b : InitiatorAnswer)
    (a1 a2 a3 a4 : LineAnswer) : (s.prepareClosed p c v b a1 a2 a3 a4).halted = s.halted := by
  simp [State.prepareClosed, State.prepareOpened]

/-- Under the spec's parameters no instruction halts the block, and `CONSTRUCT` ends a halt
(60_exceptions.md rule R147). -/
theorem exec_halted (h : exec i s = .next t) :
    t.halted = if i = .construct then false else s.halted := by
  cases exec_effect h with
  | recognises i c v hi =>
    obtain ⟨-, hc, -⟩ := frameRow_not_operation c v
    rw [if_neg (hi ▸ hc)]
    rfl
  | answers i r hs hr hc => rw [if_neg hc]; rfl
  | constructs => rfl
  | enables => exact State.enabled_halted ..
  | writes => exact State.writeClosed_halted ..
  | prepares => exact State.prepareClosed_halted ..

theorem exec_not_halted (h : exec i s = .next t) (hs : s.halted = false) : t.halted = false := by
  rw [exec_halted h, hs, ite_self]

/-- Settles O56: an instruction halts nothing, and neither an input nor the sequencer writes the halt. -/
theorem stepNeverHalts : Obligations.StepNeverHalts := by
  intro s t hs h
  rcases step_next h with ⟨i, -, -, he⟩ | ⟨-, f, rfl⟩ | ⟨-, rfl⟩ | ⟨-, rfl⟩ | ⟨-, hadv⟩
  · exact exec_not_halted he hs
  · exact hs
  · exact hs
  · exact hs
  · exact (State.advance_keeps hadv).2.1.trans hs

/-- Every instruction leaves the sequencer idle if it found it idle. -/
theorem exec_seq_idle (h : exec i s = .next t) (hs : s.seq = .idle) : t.seq = .idle := by
  cases exec_effect h with
  | recognises => exact hs
  | answers | constructs | enables | writes | prepares => rfl

/-- Settles O39: the block ends idle and not halted, and consistent with that, so it holds nothing. -/
theorem operationsEndReady : Obligations.OperationsEndReady := by
  rintro i s t ⟨hs, hhalt, hempty⟩ h
  have hidle := exec_seq_idle h hs
  obtain ⟨hfit, -⟩ := exec_consistent (State.consistent_of_idle (p := specParams) hs hempty) h
  rw [State.latchesFit_iff, hidle] at hfit
  exact ⟨hidle, exec_not_halted h hhalt, hfit⟩

/-- Every operation but `CONSTRUCT` starts with the test of 70_reset_and_hazards.md rule R165. -/
theorem exec_eq_whenReady (hop : IsOperation i) (hc : i ≠ .construct) (s : State) :
    ∃ body, exec i s = s.whenReady body := by
  cases i with
  | frameA v => exact absurd rfl (hop .A v)
  | frameB v => exact absurd rfl (hop .B v)
  | frameC v => exact absurd rfl (hop .C v)
  | frameD v => exact absurd rfl (hop .D v)
  | frameAll v => exact absurd rfl (hop .All v)
  | enable | writeBlocking | prepareTransfer | fromIndex | encode => exact ⟨_, rfl⟩
  | construct => exact absurd rfl hc

/-- `CONSTRUCT` leaves a ready block, halted or not (60_exceptions.md rule R147). -/
theorem State.construct_ready (s : State) : s.construct.Ready := ⟨rfl, rfl, rfl, rfl, rfl, rfl, rfl⟩

theorem State.release_of_ready (h : s.Ready) : s.release = s := by
  obtain ⟨hseq, -, hch, hval, hidx, hframe, hans⟩ := h
  ext1 <;> simp [*]

/-- An invalid index under the abort reading (60_exceptions.md rule R147). -/
theorem State.fromIndexWith_abort {n : Nat} (h : s.Ready) (hp : p.abortOnInvalidIndex = true)
    (hn : 4 ≤ n) : s.fromIndexWith p n = .next s.halt := by
  have hrelease : (s.latchIndex n).release = s := State.release_of_ready h
  rw [State.fromIndexWith, State.whenReady_ready h]
  simp [State.answerIndex, channelOfIndex_of_four_le hn, hp, hrelease]

/-- Settles O44: the halted block is idle, so that the test in front of each operation meets the halt. -/
theorem abortReadingHaltsUntilConstruct : Obligations.AbortReadingHaltsUntilConstruct := by
  intro p n s h hp hn
  have hidle : s.halt.seq = .idle := h.1
  refine ⟨_, State.fromIndexWith_abort h hp hn, rfl, fun i hop hc => ?_,
    _, exec_construct_of_idle hidle, State.construct_ready _⟩
  obtain ⟨body, he⟩ := exec_eq_whenReady hop hc s.halt
  exact he.trans (State.whenReady_halted hidle rfl body)

/-! ### Calls that never return -/

/-- Settles O43: each run completes only where the calls it needs return. -/
theorem callsThatNeverReturnHaveNoFinalState : Obligations.CallsThatNeverReturnHaveNoFinalState := by
  intro c v s h
  refine ⟨fun hl => ?_, fun ha hstuck => ?_, fun ha hstuck => ?_⟩
  · rcases State.run_enable specParams s with ⟨-, hrun⟩ | ⟨hreturn, -⟩
    · exact (State.whenReady_ready h _).trans hrun
    · exact absurd hreturn hl
  · rcases State.run_write specParams s c v with ⟨who, hrun, -⟩ | ⟨_, _, -, hopen, -⟩ |
      ⟨b, _, _, _, _, hb, -, hreturn, -⟩
    · exact ⟨who, (State.whenReady_whenActive h ha _).trans hrun⟩
    · cases hopen
    · exact absurd (reply_ne_never.2 ⟨b, hb⟩) (hstuck.resolve_left (not_not.2 hreturn))
  · rcases State.run_prepare specParams s c v with ⟨who, hrun, -⟩ |
      ⟨b, _, _, _, _, hb, hreturn, -⟩
    · exact ⟨who, (State.whenReady_whenActive h ha _).trans hrun⟩
    · exact absurd (reply_ne_never.2 ⟨b, hb⟩) (hstuck.resolve_left (not_not.2 hreturn))

/-! ### Another line side -/

/-- Whatever a drive met, another answer makes a difference on the line side only. -/
theorem State.driven_withLinesOf (s u : State) (l : Line) (x : Level) (a b : LineAnswer) (q : Seq) :
    (s.withLinesOf u).driven l x b q =
      (s.driven l x a q).withLinesOf ((s.withLinesOf u).driven l x b q) := by
  ext1 <;> simp [State.withLinesOf]

theorem State.written_withLinesOf (p : Params) (s u : State) (f : Frame) (a : BusAnswer) :
    (s.withLinesOf u).written p f a = (s.written p f a).withLinesOf u := by
  ext1 <;> simp [State.withLinesOf]

theorem State.initiated_withLinesOf (s u : State) (f : Frame) (a : InitiatorAnswer) (q : Seq) :
    (s.withLinesOf u).initiated f a q = (s.initiated f a q).withLinesOf u := by
  ext1 <;> simp [State.withLinesOf]

/-- A drive goes on to the next step whatever the answer, if there is one (60_exceptions.md rule
R132). -/
theorem State.drive_withLinesOf {l : Line} {x : Level} {q : Seq} {n : Nat}
    (h : s.drive l x q = .next t) (hl : u.LinesReturn (n + 1)) :
    ∃ u', (s.withLinesOf u).drive l x q = .next (t.withLinesOf u') := by
  obtain ⟨a, -, rfl⟩ := State.drive_next.1 h
  obtain ⟨b, hb⟩ := State.linesReturn_answer (s := s.withLinesOf u) hl
  exact ⟨_, (State.drive_answer hb l x q).trans
    (congrArg _ (State.driven_withLinesOf s u l x a b q))⟩

/-- No step of the sequencer reads the line side, but for whether a drive returns. -/
theorem State.advance_withLinesOf (h : s.advance p = .next t)
    (hl : u.LinesReturn (drivesLeft s.seq)) :
    ∃ u', (s.withLinesOf u).advance p = .next (t.withLinesOf u') := by
  rw [State.advance_eq_act] at h ⊢
  change ∃ u', (s.withLinesOf u).act p (seqNext s.seq) (seqAction s.seq) = .next (t.withLinesOf u')
  cases hq : seqAction s.seq <;> rw [hq] at h
  case rest | wait | activate =>
    cases h
    exact ⟨u, rfl⟩
  case drive l x =>
    rw [drivesLeft_drive hq] at hl
    exact State.drive_withLinesOf h hl
  case build =>
    obtain ⟨c, v, hc, hv, rfl⟩ := State.buildFrame_next.1 h
    exact ⟨u, State.buildFrame_some (s := s.withLinesOf u) hc hv _⟩
  case write =>
    obtain ⟨f, a, hf, hb, rfl⟩ := State.busWrite_next.1 h
    exact ⟨u, (State.busWrite_answer (s := s.withLinesOf u) hf hb).trans
      (congrArg _ (State.written_withLinesOf ..))⟩
  case initiate =>
    obtain ⟨f, a, hf, hb, rfl⟩ := State.initiate_next.1 h
    exact ⟨u, (State.initiate_answer (s := s.withLinesOf u) hf hb _).trans
      (congrArg _ (State.initiated_withLinesOf ..))⟩
  case report =>
    obtain ⟨a, ha, rfl⟩ := State.reportBus_next.1 h
    exact ⟨u, State.reportBus_some (s := s.withLinesOf u) ha⟩
  case close =>
    rw [seqAction_eq_close.1 hq] at hl
    obtain ⟨m, hm, ht⟩ := andThen_eq_next.1 h
    obtain ⟨u', hu'⟩ := State.drive_withLinesOf (n := 0) hm hl
    cases ht
    exact ⟨u', andThen_eq_next.2 ⟨_, hu', rfl⟩⟩

theorem State.runSteps_withLinesOf (n : Nat) : ∀ {s t u : State}, s.runSteps p n = .next t →
    u.LinesReturn (drivesLeft s.seq) →
    ∃ u', (s.withLinesOf u).runSteps p n = .next (t.withLinesOf u') := by
  induction n with
  | zero =>
    intro s t u h _
    cases h
    exact ⟨u, rfl⟩
  | succ n ih =>
    intro s t u h hl
    obtain ⟨m, hm, ht⟩ := andThen_eq_next.1 h
    obtain ⟨u', hu'⟩ := State.advance_withLinesOf hm hl
    rw [State.runSteps_step hu']
    exact ih ht (State.advance_linesReturn hu' hl)

theorem State.answerIndex_withLinesOf (h : s.answerIndex p = .next t) (u : State) :
    (s.withLinesOf u).answerIndex p = .next (t.withLinesOf u) := by
  have hi : (s.withLinesOf u).opIdx = s.opIdx := rfl
  revert h
  simp only [State.answerIndex, hi]
  split
  · exact nofun
  · split
    · rintro ⟨⟩
      rfl
    · split <;> rintro ⟨⟩ <;> rfl

/-- The test in front of an operation does not read the line side. -/
theorem State.whenReady_withLinesOf {body body' : Result} (h : s.whenReady body = .next t)
    (hbody : body = .next t → ∃ u', body' = .next (t.withLinesOf u')) :
    ∃ u', (s.withLinesOf u).whenReady body' = .next (t.withLinesOf u') := by
  obtain ⟨hs, hhalt, hb⟩ := State.whenReady_next.1 h
  obtain ⟨u', hu'⟩ := hbody hb
  exact ⟨u', State.whenReady_next.2 ⟨hs, hhalt, hu'⟩⟩

/-- Nor does the guard of the transfers. -/
theorem State.whenActive_withLinesOf {body body' : Result} (h : s.whenActive body = .next t)
    (hbody : body = .next t → ∃ u', body' = .next (t.withLinesOf u')) :
    ∃ u', (s.withLinesOf u).whenActive body' = .next (t.withLinesOf u') := by
  rcases State.whenActive_next h with ⟨ha, rfl⟩ | ⟨ha, hb⟩
  · exact ⟨u, State.whenActive_inactive (s := s.withLinesOf u) ha _⟩
  · obtain ⟨u', hu'⟩ := hbody hb
    exact ⟨u', (State.whenActive_active (s := s.withLinesOf u) ha _).trans hu'⟩

/-- Put any line side that returns in place of the one an instruction met: it ends as it did, but for
the line side (60_exceptions.md rule R132, 44_transfer.md rule R115). -/
theorem exec_withLinesOf (h : exec i s = .next t) (hl : u.LinesReturn 7) :
    ∃ u', exec i (s.withLinesOf u) = .next (t.withLinesOf u') := by
  have hl4 : u.LinesReturn 4 := State.linesReturn_mono (by decide) hl
  cases i with
  | frameA | frameB | frameC | frameD | frameAll =>
    cases h
    exact ⟨u, rfl⟩
  | enable =>
    exact State.whenReady_withLinesOf h fun hrun => State.runSteps_withLinesOf 10 hrun hl
  | writeBlocking c v =>
    exact State.whenReady_withLinesOf h fun hguard => State.whenActive_withLinesOf hguard fun hrun =>
      State.runSteps_withLinesOf 7 hrun hl4
  | prepareTransfer c v =>
    exact State.whenReady_withLinesOf h fun hguard => State.whenActive_withLinesOf hguard fun hrun =>
      State.runSteps_withLinesOf 6 hrun hl4
  | fromIndex n =>
    exact State.whenReady_withLinesOf h fun hidx => ⟨u, State.answerIndex_withLinesOf hidx u⟩
  | encode c v =>
    refine State.whenReady_withLinesOf h fun hans => ?_
    cases hans
    exact ⟨u, rfl⟩
  | construct =>
    obtain ⟨hs, rfl⟩ := exec_construct_next h
    exact ⟨u, exec_construct_of_idle (s := s.withLinesOf u) hs⟩

/-- Settles O36: the other line side gives the same end, but for the line side. -/
theorem lineAnswersAreDiscarded : Obligations.LineAnswersAreDiscarded := by
  intro i s u t h hl
  obtain ⟨u', hu'⟩ := exec_withLinesOf h hl
  exact ⟨_, hu', rfl⟩

end Sys2Proof.Machine

/-!
The family 70_reset_and_hazards: the state reset leaves, and what an idle and a busy block make of the
next input (70_reset_and_hazards.md rules R151, R153, R164, R165).

The idea: `State.fetch` branches on the head of the inputs and on whether the block is idle. One lemma
says what the step is on each branch that meets a request, a reset or no input.
-/

namespace Sys2Proof.Machine

variable {s : State}

/-! ### Reset -/

theorem State.reset_latchesEmpty : State.reset.LatchesEmpty := ⟨rfl, rfl, rfl, rfl, rfl⟩

/-- Settles O15: each value is a field of the reset state. -/
theorem resetLeavesTheStatedValues : Obligations.ResetLeavesTheStatedValues :=
  ⟨rfl, rfl, State.reset_latchesEmpty, rfl, rfl, rfl, rfl, rfl⟩

/-- Nothing emitted is nothing but rows. -/
theorem onlyRows_nil : OnlyRows [] := ⟨nofun, nofun⟩

/-- Settles O52: reset is idle with nothing held, has emitted nothing, and is not enabled. -/
theorem resetMeetsTheInvariants : Obligations.ResetMeetsTheInvariants :=
  ⟨State.consistent_of_idle rfl State.reset_latchesEmpty, State.emitsOnlyRows_iff.2 onlyRows_nil, rfl,
    nofun⟩

/-! ### An idle block -/

/-- An idle block runs the operation of the request presented to it, with the request taken. -/
theorem step_request_of_decode {w : Word24} {rest : List Input} {i : Instr} (hs : s.seq = .idle)
    (h : s.inputs = .request w :: rest) (hd : decode (.req24 w) = .ok i) :
    step s = exec i { s with inputs := rest } := by
  simp [step, State.fetch, h, hs, State.present, hd, State.takeInput_of_cons h]

/-- Of the reset input only the value 1 is an operation (30_encoding.md rule R64). -/
theorem ne_zero_of_decode_rst1 {b : BitVec 1} {i : Instr} (hd : decode (.rst1 b) = .ok i) :
    b ≠ 0#1 := by
  rintro rfl
  cases hd

/-- An idle block runs the operation of the reset input, with the input taken. -/
theorem step_reset_of_decode {b : BitVec 1} {rest : List Input} {i : Instr} (hs : s.seq = .idle)
    (h : s.inputs = .reset b :: rest) (hd : decode (.rst1 b) = .ok i) :
    step s = exec i { s with inputs := rest } := by
  simp [step, State.fetch, h, hs, ne_zero_of_decode_rst1 hd, State.present, hd,
    State.takeInput_of_cons h]

/-- Settles O45: the request and the reset input are the two that carry an operation. -/
theorem stepRunsTheDecodedInstruction : Obligations.StepRunsTheDecodedInstruction :=
  fun _ _ _ hs =>
    ⟨fun _ h hd => step_request_of_decode hs h hd, fun _ h hd => step_reset_of_decode hs h hd⟩

/-! ### A busy block -/

/-- `CONSTRUCT` has its own refusal on a busy block (70_reset_and_hazards.md rule R153). -/
theorem exec_construct_of_busy (hs : s.seq ≠ .idle) :
    exec .construct s = .refused .resetWhileBusy :=
  if_pos hs

theorem step_reset_of_busy (hs : s.seq ≠ .idle) (h : s.inputs.head? = some (.reset 1#1)) :
    step s = .refused .resetWhileBusy := by
  obtain ⟨rest, hin⟩ := List.head?_eq_some_iff.1 h
  simp [step, State.fetch, hin, hs]

/-- Settles O18: the refusal by the instruction, and by the fetch of the input. -/
theorem resetDuringAnOperationIsRefused : Obligations.ResetDuringAnOperationIsRefused :=
  fun _ hs => ⟨exec_construct_of_busy hs, step_reset_of_busy hs⟩

/-- A busy block accepts no operation (70_reset_and_hazards.md rule R165). -/
theorem exec_of_busy {i : Instr} (hs : s.seq ≠ .idle) (hop : IsOperation i) (hc : i ≠ .construct) :
    exec i s = .refused .blockBusy := by
  obtain ⟨body, he⟩ := exec_eq_whenReady hop hc s
  exact he.trans (State.whenReady_busy hs body)

/-- A busy block leaves a request where it is and goes on. -/
theorem step_request_of_busy {w : Word24} (hs : s.seq ≠ .idle)
    (h : s.inputs.head? = some (.request w)) : step s = s.advance specParams := by
  obtain ⟨rest, hin⟩ := List.head?_eq_some_iff.1 h
  simp [step, State.fetch, hin, hs]

theorem step_of_no_input (h : s.inputs = []) : step s = s.advance specParams := by
  simp [step, State.fetch, h]

/-- Settles O47: the test in front of each operation refuses it, and a step of the sequencer takes no
input. -/
theorem busyBlockAcceptsNothing : Obligations.BusyBlockAcceptsNothing := by
  intro s w hs
  refine ⟨fun i => exec_of_busy hs, fun h => ?_⟩
  have hstep : step s = s.advance specParams := h.elim (step_request_of_busy hs) step_of_no_input
  refine ⟨hstep, fun t ht => ?_⟩
  obtain ⟨hinputs, -, -⟩ := State.advance_keeps (hstep.symm.trans ht)
  exact hinputs

end Sys2Proof.Machine
